-- ==== Sys2Proof/Word.lean ====
section
/-! DEFINITION. The widths of the WV-612: the words that travel as bits, and the bounded numbers that name things. -/

namespace Sys2Proof

/-- A byte of a Cue Line frame or of the configuration block (spec 00, Byte layouts). -/
abbrev Byte := BitVec 8

/-- A video sample: a 10-bit integer (spec 00, Sample values). -/
abbrev Sample := BitVec 10

/-- A 16-bit check: the frame check of R129 and the check word of R103. -/
abbrev Check := BitVec 16

/-- A set of source numbers as its 64 membership bits: source `n` is a member when bit `n` is 1 (spec 00, Sets; R143). -/
abbrev SourceSet := BitVec 64

/-- A station number, 0..15 (spec 00, Identifiers). -/
abbrev Station := Fin 16

/-- A source number, 0..63 (R82). -/
abbrev Source := Fin 64

/-- A local input, 0..11 (spec 00, Identifiers). -/
abbrev InputNo := Fin 12

end Sys2Proof
end

