-- ==== Sys2Proof/Syntax.lean ====
section
/-! DEFINITION. The commands of the WV-612: one constructor of `Instr` per row of spec/opcode_table.json, with what the
outside world supplies with the event as its operands. -/

namespace Sys2Proof

/-- The four raster formats (R113). -/
inductive Format where
  | A | B | C | D
  deriving DecidableEq, Repr

/-- The field identity of a raster line or a reference field start (R114, R116). -/
inductive FieldId where
  | one | two
  deriving DecidableEq, Repr

/-- The BOOTSEL strap (R179). -/
inductive BootSel where
  | flash | defaults
  deriving DecidableEq, Repr

/-- The four key layers, 1..4 (spec 00, Identifiers). -/
inductive Layer where
  | l1 | l2 | l3 | l4
  deriving DecidableEq, Repr

/-- A line of component video: its frame line number, the luma samples of its active positions, one Cb and one Cr sample for
each pair of them, and the check word it carries (R100, R103, R115). -/
structure VideoLine where
  line : Nat
  y : List Sample
  cb : List Sample
  cr : List Sample
  check : Check
  deriving DecidableEq, Repr

/-- The parts of a frame's header that its kind and length leave: the class and the two zero bits (neither examined on
receipt, R139), the sender and the target (R142). -/
structure Header where
  cls : BitVec 2
  sender : Station
  spare : BitVec 2
  target : Station
  deriving DecidableEq, Repr

/-- How the assembly of a frame ended without an arrival (R138, R139). -/
inductive AssemblyEnd where
  /-- A byte's stop bit was read dominant. -/
  | framingFault
  /-- Byte 2 gave a length above 40. -/
  | overlong
  /-- The line became IDLE before the last check byte was assembled. -/
  | truncated
  /-- The last check byte was assembled. -/
  | checked
  deriving DecidableEq, Repr

/-- The commands: one constructor per row of spec/opcode_table.json, in the table's order. -/
inductive Instr where
  /-- RESET_ASSERTED (R179): the reset input is asserted. -/
  | resetAsserted
  /-- RESET_RELEASED (R179): the reset input is released while the strap pins show these values. -/
  | resetReleased (station : Station) (final : Bool) (boot : BootSel)
  /-- END_OF_LOADING (R180): the read of the flash completes, having read these bytes from its start (none under DEFAULTS). -/
  | endOfLoading (block : List Byte)
  /-- FLASH_UNREADABLE (R180). -/
  | flashUnreadable
  /-- ENTER_RUNNING (R181). -/
  | enterRunning
  /-- LINE_START (R101, R114): the sample counter returns to 0 and the next line starts. -/
  | lineStart
  /-- INPUT_LINE_ARRIVAL (R100): a line of an input completes arrival. -/
  | inputLineArrival (input : InputNo) (line : VideoLine)
  /-- ABSENCE (R103): the receiver of an input is not locked to a stream of the configured format. -/
  | absence (input : InputNo)
  /-- SWITCH_POINT (R122). -/
  | switchPoint
  /-- CUE_DEADLINE (R123). -/
  | cueDeadline
  /-- REFERENCE_FIELD_START (R117): a field start of this identity arrives on a reference of this format. -/
  | referenceFieldStart (format : Format) (field : FieldId)
  /-- MISS_CHECK (R121). -/
  | missCheck
  /-- LEAVE_LOCK (R121). -/
  | leaveLock
  /-- COMPLETION (R29). -/
  | completion
  /-- KEY_MIX_ENDS (R47): the own key mix of this layer ends. -/
  | keyMixEnds (layer : Layer)
  /-- PRIMARY_TICK (R105). -/
  | primaryTick
  /-- LEAK_DUE (R105): the leak of this input is due. -/
  | leakDue (input : InputNo)
  /-- PEER_EXPIRY (R167): the entry of this station expires. -/
  | peerExpiry (station : Station)
  /-- DUPLICATE_FLAG_CLEAR (R168). -/
  | duplicateFlagClear
  /-- STANDING_REPEAT (R177). -/
  | standingRepeat
  /-- LINE_IDLE (R128): the line has been recessive for 11 bit times. -/
  | lineIdle
  /-- ATTEMPT_BEGINS (R131). -/
  | attemptBegins
  /-- ARBITRATION_LOSS (R132): a recessive data bit of byte 0 is read dominant. -/
  | arbitrationLoss
  /-- ATTEMPT_PASSES_BYTE_0 (R135). -/
  | attemptPassesByte0
  /-- TRANSMIT_ERROR (R133): a bit is read back different from the bit sent. -/
  | transmitError
  /-- FRAME_DROPPED (R133). -/
  | frameDropped
  /-- ATTEMPT_COMPLETES (R134). -/
  | attemptCompletes
  /-- FRAME_DISCARDED (R138): an assembly with these bytes ends without an arrival. -/
  | frameDiscarded (bytes : List Byte) (ending : AssemblyEnd)
  /-- DELEGATE_ARRIVAL (R147), with its one payload byte. -/
  | delegateArrival (h : Header) (b0 : Byte)
  /-- PICK_ARRIVAL (R148), with its two payload bytes: bus and source. -/
  | pickArrival (h : Header) (b0 b1 : Byte)
  /-- LEVER_ARRIVAL (R148), with its two payload bytes: the position. -/
  | leverArrival (h : Header) (b0 b1 : Byte)
  /-- TAKE_ARRIVAL (R148), with its one payload byte: the mode. -/
  | takeArrival (h : Header) (b0 : Byte)
  /-- KEYTAKE_ARRIVAL (R148), with its two payload bytes: layer and mode. -/
  | keytakeArrival (h : Header) (b0 b1 : Byte)
  /-- NEXTSEL_ARRIVAL (R148), with its one payload byte: background flag and key mask. -/
  | nextselArrival (h : Header) (b0 : Byte)
  /-- TRANSET_ARRIVAL (R148), with its payload (R145). -/
  | transetArrival (h : Header) (payload : List Byte)
  /-- KEYSET_ARRIVAL (R148), with its payload (R145). -/
  | keysetArrival (h : Header) (payload : List Byte)
  /-- RESTORE_ARRIVAL (R148), with its one payload byte: the input. -/
  | restoreArrival (h : Header) (b0 : Byte)
  /-- STANDING_ARRIVAL (R165), with its payload (R143). -/
  | standingArrival (h : Header) (payload : List Byte)
  /-- REFUSAL_ARRIVAL (R165), with its three payload bytes (R144). -/
  | refusalArrival (h : Header) (b0 b1 b2 : Byte)
  /-- LINE_BUSY (R128): the port reads a dominant level after IDLE. -/
  | lineBusy
  deriving DecidableEq, Repr

end Sys2Proof
end

