-- ==== Sys2Proof/Machine/Bits.lean ====
section
/-! DEFINITION. Bits and bytes: the order in which they travel, the 16-bit check of R129 and R103, and 16-bit values. -/

namespace Sys2Proof.Machine

/-- The bits of a word of width `w`, most significant first (spec 00, Byte layouts). -/
def bitsMsbFirst {w : Nat} (v : BitVec w) : List Bool :=
  (List.range w).map fun i => v.getLsbD (w - 1 - i)

/-- One bit of the check register (R129): shift left by one place, dropping the top bit, and when the exclusive-or of the bit
with the register's top bit was 1 replace the register by its exclusive-or with 4129. -/
def crcBit (reg : Check) (b : Bool) : Check :=
  if b ^^ reg.getLsbD 15 then (reg <<< 1) ^^^ 4129#16 else reg <<< 1

/-- The check register after a run of bits, from its initial value 65535 (R129). -/
def crc (bits : List Bool) : Check := bits.foldl crcBit 65535#16

/-- The frame check of a header and payload (R129). -/
def frameCheck (bytes : List Byte) : Check := crc (bytes.flatMap bitsMsbFirst)

/-- The samples of a line in the order the check word takes them: pair by pair Cb, even luma, Cr, odd luma (R103). -/
def lineSampleOrder : List Sample → List Sample → List Sample → List Sample
  | y0 :: y1 :: ys, cb :: cbs, cr :: crs => cb :: y0 :: cr :: y1 :: lineSampleOrder ys cbs crs
  | _, _, _ => []

/-- The check word over the active samples of a line (R103). -/
def lineCheck (y cb cr : List Sample) : Check := crc ((lineSampleOrder y cb cr).flatMap bitsMsbFirst)

/-- A 16-bit value from two bytes, most significant first. -/
def word16 (hi lo : Byte) : Nat := hi.toNat * 256 + lo.toNat

/-- The two bytes of a 16-bit value, most significant first. -/
def bytes16 (n : Nat) : List Byte := [BitVec.ofNat 8 (n / 256), BitVec.ofNat 8 n]

/-- The two check bytes of a frame, most significant first (R129). -/
def checkBytes (c : Check) : List Byte := bytes16 c.toNat

/-- Eight bytes of a set, most significant first: byte 0 bit 7 is source 63 (R143). -/
def setBytes (x : SourceSet) : List Byte :=
  [x.extractLsb' 56 8, x.extractLsb' 48 8, x.extractLsb' 40 8, x.extractLsb' 32 8,
   x.extractLsb' 24 8, x.extractLsb' 16 8, x.extractLsb' 8 8, x.extractLsb' 0 8]

/-- A set from its eight bytes, most significant first (R143). -/
def setOfBytes (bytes : List Byte) : SourceSet :=
  bytes.foldl (fun acc b => (acc <<< 8) ||| b.setWidth 64) 0#64

/-- The set that holds one source. -/
def setSingle (n : Source) : SourceSet := 1#64 <<< n.val

/-- Whether a source is a member of a set. -/
def setHas (x : SourceSet) (n : Source) : Bool := x.getLsbD n.val

/-- The union of a list of sets. -/
def setUnions (xs : List SourceSet) : SourceSet := xs.foldr (· ||| ·) 0#64

/-- `clamp(x, lo, hi)` of spec 00, for `lo ≤ hi`. -/
def clampNat (x lo hi : Nat) : Nat := if x < lo then lo else if hi < x then hi else x

/-- |a − b| on natural numbers. -/
def absDiff (a b : Nat) : Nat := (a - b) + (b - a)

/-- A sample from a number 0..1023. -/
def sampleOf (n : Nat) : Sample := BitVec.ofNat 10 n

end Sys2Proof.Machine
end

