-- ==== Sys2Proof/Machine/Geometry.lean ====
section
/-! DEFINITION. The raster formats of R113 and the places on them: fields, active lines, frame rows, switch lines, deadline
lines and the points where a reference field start is expected. -/

namespace Sys2Proof.Machine

/-- Two fields to a frame (R113). -/
def interlaced : Format → Bool
  | .A | .B => true
  | .C | .D => false

/-- Lines per frame (R113). -/
def frameLines : Format → Nat
  | .A | .B => 1125
  | .C | .D => 750

/-- Samples per line, L (R113). -/
def lineSamples : Format → Nat
  | .A => 2640
  | .B => 2200
  | .C => 1980
  | .D => 1650

/-- Active samples, W (R113). -/
def activeWidth : Format → Nat
  | .A | .B => 1920
  | .C | .D => 1280

/-- Sample counts of a line in horizontal blanking, L − W: the first counts of each line (R113). -/
def blankingSamples (f : Format) : Nat := lineSamples f - activeWidth f

/-- The active position x of a sample count: none in horizontal blanking, and x = 0 at the sample count L − W (R66, R113). -/
def activePosition (f : Format) (sample : Nat) : Option Nat :=
  if sample < blankingSamples f then none else some (sample - blankingSamples f)

/-- Active lines of the whole frame, H (R66). -/
def activeHeight : Format → Nat
  | .A | .B => 1080
  | .C | .D => 720

/-- The field identity of a line: 1 for lines 1..563 and for every line of a progressive format, 2 otherwise (R114). -/
def fieldOfLine (f : Format) (line : Nat) : FieldId :=
  if interlaced f && decide (564 ≤ line) then .two else .one

/-- The first line of a field (R113). -/
def firstLine : FieldId → Nat
  | .one => 1
  | .two => 564

/-- The active lines (R113). -/
def isActiveLine (f : Format) (line : Nat) : Bool :=
  if interlaced f then decide (21 ≤ line ∧ line ≤ 560) || decide (584 ≤ line ∧ line ≤ 1123)
  else decide (26 ≤ line ∧ line ≤ 745)

/-- The frame row y of an active line (R66). -/
def frameRow (f : Format) (line : Nat) : Nat :=
  if interlaced f then (if line < 564 then 2 * (line - 21) else 2 * (line - 584) + 1) else line - 26

/-- A line number taken through the end of the frame (R116, R123). -/
def wrapLine (f : Format) (n : Nat) : Nat := if frameLines f < n then n - frameLines f else n

/-- How many lines the counter at `a` runs before it stands at `b`, through the end of the frame; 0 when it stands there. -/
def linesAhead (f : Format) (a b : Nat) : Nat := (b + frameLines f - a) % frameLines f

/-- The lines whose field-relative line is the switch line `s` (R122). -/
def switchLines (f : Format) (s : Nat) : List Nat := if interlaced f then [s, 563 + s] else [s]

/-- The deadline lines for switch line `s` and guard `g` (R123). -/
def deadlineLines (f : Format) (s g : Nat) : List Nat :=
  if interlaced f then [563 + s - g, wrapLine f (1125 + s - g)] else [wrapLine f (750 + s - g)]

/-- The fields of a format. -/
def fieldsOf (f : Format) : List FieldId := if interlaced f then [.one, .two] else [.one]

/-- The line at which the counters expect a reference field start of field `fi` under an offset of `offLines` (R116). -/
def expectedLine (f : Format) (fi : FieldId) (offLines : Nat) : Nat := wrapLine f (firstLine fi + offLines)

/-- The lines of the miss checks: three lines after the expected lines (R121). -/
def missCheckLines (f : Format) (offLines : Nat) : List Nat :=
  (fieldsOf f).map fun fi => wrapLine f (expectedLine f fi offLines + 3)

/-- Sample periods in a frame. -/
def frameSamples (f : Format) : Nat := frameLines f * lineSamples f

/-- The place of a line and sample in the frame, in sample periods from line 1, sample 0. -/
def framePosition (f : Format) (line sample : Nat) : Nat := (line - 1) * lineSamples f + sample

/-- The deviation of R116: from the point where the counters stand to the expected point, the shorter way round the frame,
positive when the counters have passed the expected point. A distance of exactly half a frame counts as positive (log entry 11). -/
def deviation (f : Format) (pos expected : Nat) : Int :=
  let past := (pos + frameSamples f - expected) % frameSamples f
  if past * 2 ≤ frameSamples f then (past : Int) else (past : Int) - (frameSamples f : Int)

/-- A deviation of at most two lines is matching (R116). -/
def isMatching (f : Format) (dev : Int) : Bool := decide (dev.natAbs ≤ 2 * lineSamples f)

/-- The field after `fi` in the raster. -/
def nextField (f : Format) : FieldId → FieldId
  | .one => if interlaced f then .two else .one
  | .two => .one

/-- Of a list of lines, how far ahead of the counter at `a` the nearest stands. -/
def nearestAhead (f : Format) (a : Nat) (ls : List Nat) : Nat :=
  ls.foldl (fun best l => min best (linesAhead f a l)) (frameLines f)

end Sys2Proof.Machine
end

