-- ==== Sys2Proof/Config.lean ====
section
/-! DEFINITION. The numbers the spec fixes for every part, and the one value it leaves open. -/

namespace Sys2Proof.Config

/-- Progress, mix factors and levels run 0..1024 (spec 00). -/
def full : Nat := 1024

/-- The end zones of the lever are 16 wide (R37). -/
def endZone : Nat := 16

/-- The Field Action Queue holds at most 16 entries (R158). -/
def queueCapacity : Nat := 16

/-- The port's refusal queue holds at most 4 records (R136). -/
def refusalCapacity : Nat := 4

/-- At most 4 frames are transmitted in one field (R135). -/
def frameBudget : Nat := 4

/-- A frame whose transmit error count reaches 3 is dropped (R133). -/
def errorLimit : Nat := 3

/-- A Peer View entry whose age reaches 24 is expired (R167). -/
def expiryAge : Nat := 24

/-- The duplicate flag is cleared when the quiet count reaches 24 (R168). -/
def quietLimit : Nat := 24

/-- STANDING is repeated when the repeat count reaches 8 (R177). -/
def repeatPeriod : Nat := 8

/-- LISTENING lasts 8 switch points (R181). -/
def listeningPeriod : Nat := 8

/-- The flash is unreadable when its read has not completed by the 16th switch point after release (R180). -/
def flashLimit : Nat := 16

/-- The miss count at which lock is left (R121). -/
def missLimit : Nat := 3

/-- FREE VALUE (log entry 7). `expiryTurn c p` is the turn, among the turns of the switch point with free-value count `c`,
at which an entry of station `p` that is due to expire there is taken: turn 0 is before the cycle test, turn `j` is before
the `j`-th offered entry, and an entry whose turn never comes is taken last. The spec gives both orders and chooses none
(R36, R90, R167, R174), so the constant has no body. -/
opaque expiryTurn : Nat → Nat → Nat

end Sys2Proof.Config
end

