-- ==== Sys2Proof/Machine/State.lean ====
section
/-! DEFINITION. Everything the spec gives the WV-612 to hold, as plain data, block by block, and the state after reset. -/

namespace Sys2Proof.Machine

/-! ## The Start-up Loader (R179) -/

/-- The station states (R179 to R181). -/
inductive StationState where
  | loading | listening | running | barred
  deriving DecidableEq, Repr

/-- The Start-up Loader's record (R179). -/
structure Loader where
  /-- the level of the reset input -/
  inputAsserted : Bool
  state : StationState
  /-- the station number strap, as read at the last release of reset -/
  station : Station
  /-- the FINAL strap -/
  final : Bool
  /-- the BOOTSEL strap -/
  boot : BootSel
  listeningCount : Nat
  configDefault : Bool
  /-- switch points since the release of reset, counted in LOADING (R180) -/
  loadingSwitchPoints : Nat
  deriving DecidableEq, Repr

/-! ## The Raster Timing Generator (R113 to R125) -/

/-- The reference states (R117). -/
inductive RefState where
  | free | realign | locked
  deriving DecidableEq, Repr

/-- The rate of the sample counter: nominal, or `counts` sample counts spread over the nominal field period (R119). -/
inductive SampleRate where
  | nominal
  | disciplined (counts : Nat)
  deriving DecidableEq, Repr

/-- The generator's record (R113 to R125). -/
structure Raster where
  format : Format
  line : Nat
  sample : Nat
  refState : RefState
  missCount : Nat
  /-- a reference field start has been taken since the previous miss check (R121) -/
  startSeen : Bool
  rate : SampleRate
  deadlineFlag : Bool
  switchLine : Nat
  guardLines : Nat
  offsetLines : Nat
  offsetSamples : Nat
  /-- active output lines started in the present pass, latest first (R100) -/
  startedLines : List Nat
  /-- the number k of the field in progress: the switch points since reset -/
  field : Nat
  fieldId : FieldId
  deriving DecidableEq, Repr

/-! ## The Cue Line Port (R127 to R141) -/

/-- The line state (R128). -/
inductive LineState where
  | busy | idle
  deriving DecidableEq, Repr

/-- The phase of reception: waiting for IDLE before a start bit is taken (R138, R141), ready for one, or assembling a frame. -/
inductive RxState where
  | waitIdle | ready | assembling
  deriving DecidableEq, Repr

/-- The frame kinds the WV-612 receives or sends (R139). -/
inductive FrameKind where
  | delegate | pick | lever | take | keytake | nextsel | transet | keyset | restore | standing | refusal
  deriving DecidableEq, Repr

/-- The reasons of a REFUSAL (R144). -/
inductive Reason where
  | notDelegated | restricted | badValue | queueFull | missingSource | loop | loopBroken | transitionRunning | emptyNext
  | stillFaulty
  deriving DecidableEq, Repr

/-- A refusal record (R130). -/
structure RefusalRecord where
  target : Station
  kind : FrameKind
  reason : Reason
  detail : Byte
  errors : Nat
  deriving DecidableEq, Repr

/-- What an attempt sends (R131). -/
inductive Slot where
  | standing | refusal
  deriving DecidableEq, Repr

/-- An attempt in progress (R130): what it sends, the field in which it began, whether it has passed byte 0 (R135), and the
bytes of its frame, fixed when it began (R137). -/
structure Attempt where
  slot : Slot
  field : Nat
  passedByte0 : Bool
  frame : List Byte
  deriving DecidableEq, Repr

/-- The port's record (R128, R130, R141). -/
structure Port where
  lineState : LineState
  rx : RxState
  standingPending : Bool
  standingRenewed : Bool
  standingErrors : Nat
  refusals : List RefusalRecord
  attempt : Option Attempt
  budgetCount : Nat
  budgetField : Nat
  deriving DecidableEq, Repr

/-! ## Transition settings, key settings and the entries that carry them -/

/-- Transition type (R5). -/
inductive TransType where
  | mix | wipe
  deriving DecidableEq, Repr

/-- Wipe patterns (R71). -/
inductive Pattern where
  | horizontal | vertical | box | diamond
  deriving DecidableEq, Repr

/-- Direction modes (R72). -/
inductive DirectionMode where
  | normal | reverse | alternate
  deriving DecidableEq, Repr

/-- A sample triple. -/
structure Colour where
  y : Sample
  cb : Sample
  cr : Sample
  deriving DecidableEq, Repr

/-- The transition settings other than the direction bit (R5). -/
structure TransSettings where
  type : TransType
  rate : Nat
  pattern : Pattern
  mode : DirectionMode
  cx : Nat
  cy : Nat
  softness : Nat
  borderWidth : Nat
  border : Colour
  deriving DecidableEq, Repr

/-- The fields a TRANSET entry carries; an absent one is none (R33, R145). -/
structure TransetFields where
  type : Option TransType
  rate : Option Nat
  pattern : Option Pattern
  mode : Option DirectionMode
  cx : Option Nat
  cy : Option Nat
  softness : Option Nat
  borderWidth : Option Nat
  borderY : Option Sample
  borderCb : Option Sample
  borderCr : Option Sample
  deriving DecidableEq, Repr

/-- The next-transition selection (R6). -/
structure Selection where
  background : Bool
  mask1 : Bool
  mask2 : Bool
  mask3 : Bool
  mask4 : Bool
  deriving DecidableEq, Repr

/-- Key type (R49). -/
inductive KeyType where
  | luma | linear
  deriving DecidableEq, Repr

/-- Mask mode (R51). -/
inductive MaskMode where
  | none | inside | outside
  deriving DecidableEq, Repr

/-- The settings of a key layer (R7). -/
structure KeySettings where
  type : KeyType
  clip : Nat
  gain : Nat
  invert : Bool
  rate : Nat
  maskMode : MaskMode
  left : Nat
  top : Nat
  width : Nat
  height : Nat
  deriving DecidableEq, Repr

/-- The fields a KEYSET entry carries; an absent one is none (R52, R145). -/
structure KeysetFields where
  type : Option KeyType
  clip : Option Nat
  gain : Option Nat
  invert : Option Bool
  rate : Option Nat
  maskMode : Option MaskMode
  left : Option Nat
  top : Option Nat
  width : Option Nat
  height : Option Nat
  stackPosition : Option Nat
  deriving DecidableEq, Repr

/-- The ten buses, in the order in which a frame numbers them 0..9 (spec 00, Identifiers). -/
inductive Bus where
  | pgm | pst | k1f | k1s | k2f | k2s | k3f | k3s | k4f | k4s
  deriving DecidableEq, Repr

/-- The mode of a TAKE. -/
inductive TakeMode where
  | cut | auto
  deriving DecidableEq, Repr

/-- The mode of a KEYTAKE. -/
inductive KeytakeMode where
  | cut | mix
  deriving DecidableEq, Repr

/-- The kind and payload of an entry of the Field Action Queue (R158). -/
inductive Action where
  | select (bus : Bus) (source : Source)
  | take (mode : TakeMode)
  | lever (position : Nat)
  | transet (fields : TransetFields)
  | nextsel (selection : Selection)
  | keytake (layer : Layer) (mode : KeytakeMode)
  | keyset (layer : Layer) (fields : KeysetFields)
  | restore (input : InputNo)
  deriving DecidableEq, Repr

/-! ## Control Intake (R146, R158) -/

/-- The classes of the permission table (R153). -/
inductive Permission where
  | full | limited | watch
  deriving DecidableEq, Repr

/-- The lever policies (R154, R155). -/
inductive LeverPolicy where
  | fixed | latest
  deriving DecidableEq, Repr

/-- An entry of the Field Action Queue (R158). -/
structure Entry where
  action : Action
  sender : Station
  /-- the number of the switch point at which it falls due (R157) -/
  due : Nat
  deriving DecidableEq, Repr

/-- The intake's record (R146). -/
structure Intake where
  /-- 16 classes, one per station number -/
  permissions : List Permission
  leverPolicy : LeverPolicy
  linkGroup : Fin 4
  leverOwner : Option Station
  queue : List Entry
  deriving DecidableEq, Repr

/-! ## The Peer View (R164, R168, R177) -/

/-- The announced fields a MIX entry keeps (R164). -/
structure MixFields where
  programme : Source
  linkGroup : Fin 4
  final : Bool
  contribution : SourceSet
  next : SourceSet
  deriving DecidableEq, Repr

/-- The kind of an entry, with the fields only that kind has (R164). -/
inductive PeerKind where
  | mix (fields : MixFields)
  | panel (delegation : Option Station)
  deriving DecidableEq, Repr

/-- An entry of the Peer View (R164). -/
structure PeerEntry where
  station : Station
  age : Nat
  kind : PeerKind
  deriving DecidableEq, Repr

/-- The engine states (R19). -/
inductive EngineState where
  | idle | auto | lever
  deriving DecidableEq, Repr

/-- The layer states (R45). -/
inductive LayerState where
  | off | rising | on | falling
  deriving DecidableEq, Repr

/-- The health states (R107). -/
inductive Health where
  | clean | suspect | faulty | failed
  deriving DecidableEq, Repr

/-- The announced values of a field (R177). -/
structure Announced where
  engine : EngineState
  type : TransType
  progress : Nat
  pgm : Source
  pst : Source
  layer1 : LayerState
  layer2 : LayerState
  layer3 : LayerState
  layer4 : LayerState
  contribution : SourceSet
  next : SourceSet
  health : List Health
  refState : RefState
  duplicate : Bool
  noFinal : Bool
  leverOwner : Option Station
  deriving DecidableEq, Repr

/-- The Peer View's record (R164, R168, R177). -/
structure PeerView where
  entries : List PeerEntry
  duplicate : Bool
  quiet : Nat
  repeatCount : Nat
  /-- the announced state of the field in progress, kept for the comparison of R177 -/
  announced : Announced
  deriving DecidableEq, Repr

/-! ## The Source Map and Crosspoint Resolver (R82, R83, R87) -/

/-- A mapped entry of the source map; an UNMAPPED entry is none (R83). -/
structure MapEntry where
  input : InputNo
  backup : Option Source
  failover : Bool
  deriving DecidableEq, Repr

/-- A bus record (R4). -/
structure BusRecord where
  selected : Source
  previous : Source
  lastSelector : Option Station
  effective : Source
  deriving DecidableEq, Repr

/-- The ten bus records (R87). -/
structure Buses where
  pgm : BusRecord
  pst : BusRecord
  k1f : BusRecord
  k1s : BusRecord
  k2f : BusRecord
  k2s : BusRecord
  k3f : BusRecord
  k3s : BusRecord
  k4f : BusRecord
  k4s : BusRecord
  deriving DecidableEq, Repr

/-- The resolver's record. -/
structure Crosspoint where
  /-- the own programme source number (R82) -/
  programme : Option Source
  /-- the 62 entries of sources 2..63, in order -/
  map : List (Option MapEntry)
  buses : Buses
  deriving DecidableEq, Repr

/-- The contribution and next-contribution sets of the field in progress (R13, R14). -/
structure SourceSets where
  contribution : SourceSet
  next : SourceSet
  deriving DecidableEq, Repr

/-! ## The Input Condition Monitor (R99) -/

/-- What the Monitor holds for one input (R99). -/
structure InputRecord where
  /-- completed lines not yet read, oldest first -/
  buffer : List VideoLine
  substitutionSeen : Bool
  checkFailureSeen : Bool
  absenceSeen : Bool
  count : Nat
  divider : Nat
  /-- the configured divider D -/
  leakDivider : Nat
  health : Health
  deriving DecidableEq, Repr

/-- The Monitor's record (R99). -/
structure Monitor where
  /-- the alignment window A -/
  window : Nat
  /-- the threshold T -/
  threshold : Nat
  /-- the primary leak period P -/
  period : Nat
  /-- the primary leak counter -/
  primary : Nat
  gathering : Bool
  /-- the 12 inputs in order -/
  inputs : List InputRecord
  deriving DecidableEq, Repr

/-! ## The Transition Engine (R19) -/

/-- The lever sense (R37). -/
inductive Sense where
  | up | down
  deriving DecidableEq, Repr

/-- The engine's record (R19). -/
structure Engine where
  state : EngineState
  progress : Nat
  startProgress : Nat
  elapsed : Nat
  remaining : Nat
  settings : TransSettings
  direction : Bool
  selection : Selection
  sense : Sense
  engaged : Bool
  latest : Option Nat
  deriving DecidableEq, Repr

/-! ## The Key Layer Unit (R7, R9, R45) -/

/-- The record of a key layer, less its two bus records, which are the resolver's (R7). -/
structure LayerRecord where
  settings : KeySettings
  state : LayerState
  level : Nat
  elapsed : Nat
  moving : Bool
  deriving DecidableEq, Repr

/-- The unit's record: four layers and the stack order, bottom first. -/
structure KeyUnit where
  layer1 : LayerRecord
  layer2 : LayerRecord
  layer3 : LayerRecord
  layer4 : LayerRecord
  stack : List Layer
  deriving DecidableEq, Repr

/-! ## Picture Arithmetic and the outputs (R62, R81, R115) -/

/-- The four limiter limits (R81). -/
structure Limits where
  yLo : Nat
  yHi : Nat
  cLo : Nat
  cHi : Nat
  deriving DecidableEq, Repr

/-- An output line: its timing reference, the samples of its horizontal blanking, those of its active positions, and the check word over
the active ones (R68, R103, R113, R115). -/
structure OutputLine where
  line : Nat
  fieldFlag : Bool
  blankingFlag : Bool
  blankY : List Sample
  blankCb : List Sample
  blankCr : List Sample
  y : List Sample
  cb : List Sample
  cr : List Sample
  check : Check
  deriving DecidableEq, Repr

/-- Picture Arithmetic's record: the limits, the matte colour and the line each output carries. -/
structure Picture where
  limits : Limits
  matte : Colour
  pgm : OutputLine
  pvw : OutputLine
  deriving DecidableEq, Repr

/-! ## The Tally Unit (R169) -/

/-- The states of a tally line (R173). -/
inductive TallyState where
  | dark | onAir | preview
  deriving DecidableEq, Repr

/-- The Tally Unit's record (R169). -/
structure Tally where
  onAir : SourceSet
  preview : SourceSet
  noFinal : Bool
  /-- the 12 tally lines in order -/
  lines : List TallyState
  deriving DecidableEq, Repr

/-! ## The whole state -/

/-- No command of the WV-612 stops it: the block has no fault (INVENTORY.md, Faults). -/
inductive Fault where
  deriving DecidableEq, Repr

/-- Why a command has no meaning in the model. -/
inductive Refusal where
  /-- Raised only by an arm of `exec` whose command has no meaning yet (there is none); safe, since the machine stops. -/
  | notModelled (mnemonic : String)
  deriving DecidableEq, Repr

/-- The state of the part: its eleven blocks, the derived sets, and the model's own free-value counter and command queue. -/
structure State where
  loader : Loader
  raster : Raster
  port : Port
  intake : Intake
  peers : PeerView
  crosspoint : Crosspoint
  sets : SourceSets
  monitor : Monitor
  engine : Engine
  keys : KeyUnit
  picture : Picture
  tally : Tally
  /-- the model's own counter for its free values (log entry 7) -/
  freeCount : Nat
  /-- the commands that are waiting, first in first out -/
  pending : List Instr
  deriving DecidableEq, Repr

/-! ## Updates by block -/

def State.setLoader (s : State) (x : Loader) : State := { s with loader := x }
def State.setRaster (s : State) (x : Raster) : State := { s with raster := x }
def State.setPort (s : State) (x : Port) : State := { s with port := x }
def State.setIntake (s : State) (x : Intake) : State := { s with intake := x }
def State.setPeers (s : State) (x : PeerView) : State := { s with peers := x }
def State.setCrosspoint (s : State) (x : Crosspoint) : State := { s with crosspoint := x }
def State.setSets (s : State) (x : SourceSets) : State := { s with sets := x }
def State.setMonitor (s : State) (x : Monitor) : State := { s with monitor := x }
def State.setEngine (s : State) (x : Engine) : State := { s with engine := x }
def State.setKeys (s : State) (x : KeyUnit) : State := { s with keys := x }
def State.setPicture (s : State) (x : Picture) : State := { s with picture := x }
def State.setTally (s : State) (x : Tally) : State := { s with tally := x }
def State.setFreeCount (s : State) (x : Nat) : State := { s with freeCount := x }
def State.setPending (s : State) (x : List Instr) : State := { s with pending := x }

/-! ## The state after reset -/

/-- BLACK (spec 00, Sample values). -/
def Colour.black : Colour := { y := 64#10, cb := 512#10, cr := 512#10 }

/-- The settings of R10 and R184. -/
def TransSettings.reset : TransSettings :=
  { type := .mix, rate := 30, pattern := .horizontal, mode := .normal, cx := 512, cy := 512, softness := 0, borderWidth := 0,
    border := { y := 940#10, cb := 512#10, cr := 512#10 } }

/-- The key settings of R10 and R184. -/
def KeySettings.reset : KeySettings :=
  { type := .luma, clip := 0, gain := 16, invert := false, rate := 15, maskMode := .none, left := 0, top := 0, width := 0,
    height := 0 }

/-- A layer after reset (R10, R45). -/
def LayerRecord.reset : LayerRecord :=
  { settings := KeySettings.reset, state := .off, level := 0, elapsed := 0, moving := false }

/-- A bus record after reset (R10, R87). -/
def BusRecord.reset : BusRecord := { selected := 0, previous := 0, lastSelector := none, effective := 0 }

/-- The ten bus records after reset (R87). -/
def Buses.reset : Buses :=
  { pgm := .reset, pst := .reset, k1f := .reset, k1s := .reset, k2f := .reset, k2s := .reset, k3f := .reset, k3s := .reset,
    k4f := .reset, k4s := .reset }

/-- An input after reset (R99). -/
def InputRecord.reset : InputRecord :=
  { buffer := [], substitutionSeen := false, checkFailureSeen := false, absenceSeen := false, count := 0, divider := 0,
    leakDivider := 0, health := .clean }

/-- The limits from reset to the end of LOADING (R81). -/
def Limits.reset : Limits := { yLo := 64, yHi := 940, cLo := 64, cHi := 960 }

/-- Line 1 of format A as both outputs carry it from the moment of reset: a blanking line of BLACK (R16, R115, R125). -/
def OutputLine.reset : OutputLine :=
  { line := 1, fieldFlag := false, blankingFlag := true, blankY := List.replicate 720 64#10, blankCb := List.replicate 360 512#10,
    blankCr := List.replicate 360 512#10, y := List.replicate 1920 64#10, cb := List.replicate 960 512#10,
    cr := List.replicate 960 512#10,
    check := lineCheck (List.replicate 1920 64#10) (List.replicate 960 512#10) (List.replicate 960 512#10) }

/-- The announced values of the reset composition (log entry 26). -/
def Announced.reset : Announced :=
  { engine := .idle, type := .mix, progress := 0, pgm := 0, pst := 0, layer1 := .off, layer2 := .off, layer3 := .off,
    layer4 := .off, contribution := 1#64, next := 1#64, health := List.replicate 12 .clean, refState := .free,
    duplicate := false, noFinal := false, leverOwner := none }

/-- The Loader at power-on, the reset input asserted (R179; log entry 4 for the straps). -/
def Loader.reset : Loader :=
  { inputAsserted := true, state := .loading, station := 0, final := false, boot := .flash, listeningCount := 0,
    configDefault := false, loadingSwitchPoints := 0 }

/-- The generator after reset (R125; log entries 13 and 22). -/
def Raster.reset : Raster :=
  { format := .A, line := 1, sample := 0, refState := .free, missCount := 0, startSeen := false, rate := .nominal,
    deadlineFlag := true, switchLine := 7, guardLines := 20, offsetLines := 0, offsetSamples := 0, startedLines := [],
    field := 0, fieldId := .one }

/-- The port after reset (R130, R141). -/
def Port.reset : Port :=
  { lineState := .busy, rx := .waitIdle, standingPending := false, standingRenewed := false, standingErrors := 0, refusals := [],
    attempt := none, budgetCount := 0, budgetField := 1 }

/-- Control Intake after reset (R146). -/
def Intake.reset : Intake :=
  { permissions := List.replicate 16 .full, leverPolicy := .fixed, linkGroup := 0, leverOwner := none, queue := [] }

/-- The Peer View after reset (R164, R168, R177, R178). -/
def PeerView.reset : PeerView :=
  { entries := [], duplicate := false, quiet := 0, repeatCount := 0, announced := .reset }

/-- The resolver after reset (R82, R83, R87). -/
def Crosspoint.reset : Crosspoint := { programme := none, map := List.replicate 62 none, buses := .reset }

/-- The Monitor after reset (R99). -/
def Monitor.reset : Monitor :=
  { window := 2, threshold := 8, period := 50, primary := 0, gathering := false, inputs := List.replicate 12 .reset }

/-- The next-transition selection after reset (R6). -/
def Selection.reset : Selection := { background := true, mask1 := false, mask2 := false, mask3 := false, mask4 := false }

/-- The engine after reset (R19). -/
def Engine.reset : Engine :=
  { state := .idle, progress := 0, startProgress := 0, elapsed := 0, remaining := 30, settings := .reset, direction := false,
    selection := .reset, sense := .up, engaged := false, latest := none }

/-- The Key Layer Unit after reset (R10, R45). -/
def KeyUnit.reset : KeyUnit :=
  { layer1 := .reset, layer2 := .reset, layer3 := .reset, layer4 := .reset, stack := [.l1, .l2, .l3, .l4] }

/-- Picture Arithmetic after reset (R62, R81, R16). -/
def Picture.reset : Picture :=
  { limits := .reset, matte := { y := 502#10, cb := 512#10, cr := 512#10 }, pgm := .reset, pvw := .reset }

/-- The Tally Unit after reset (R169). -/
def Tally.reset : Tally := { onAir := 0#64, preview := 0#64, noFinal := false, lines := List.replicate 12 .dark }

/-- The part right after reset: at power-on, with the reset input asserted (R179). -/
def State.reset : State :=
  { loader := .reset, raster := .reset, port := .reset, intake := .reset, peers := .reset, crosspoint := .reset,
    sets := { contribution := 1#64, next := 1#64 }, monitor := .reset, engine := .reset, keys := .reset, picture := .reset,
    tally := .reset, freeCount := 0, pending := [] }

end Sys2Proof.Machine
end

