-- ==== Sys2Proof/Machine/Operands.lean ====
section
/-! DEFINITION. What the bytes of a frame or of the configuration block stand for: every operand form of R142 to R145, the
checks of R151, the clamps of R152, and the configuration block of R182 to R184 with the validation of R84 and R85. -/

namespace Sys2Proof.Machine

/-! ## Numbers that name things -/

/-- The bus a frame numbers (spec 00, Identifiers). -/
def busOfNat : Nat → Option Bus
  | 0 => some .pgm
  | 1 => some .pst
  | 2 => some .k1f
  | 3 => some .k1s
  | 4 => some .k2f
  | 5 => some .k2s
  | 6 => some .k3f
  | 7 => some .k3s
  | 8 => some .k4f
  | 9 => some .k4s
  | _ => none

/-- The number of a bus in a frame. -/
def busNumber : Bus → Byte
  | .pgm => 0
  | .pst => 1
  | .k1f => 2
  | .k1s => 3
  | .k2f => 4
  | .k2s => 5
  | .k3f => 6
  | .k3s => 7
  | .k4f => 8
  | .k4s => 9

/-- The layer a frame numbers, 1..4. -/
def layerOfNat : Nat → Option Layer
  | 1 => some .l1
  | 2 => some .l2
  | 3 => some .l3
  | 4 => some .l4
  | _ => none

/-- The number of a layer in a frame. -/
def layerNumber : Layer → Byte
  | .l1 => 1
  | .l2 => 2
  | .l3 => 3
  | .l4 => 4

/-- The input a frame numbers, 0..11. -/
def inputOfNat (n : Nat) : Option InputNo := if h : n < 12 then some ⟨n, h⟩ else none

/-- The source of the low six bits of a byte (R142, R143). -/
def sourceOfByte (b : Byte) : Source := ⟨b.toNat % 64, Nat.mod_lt _ (by decide)⟩

/-- A source number 0..63 from a configured byte; a byte outside 0..63 names none (R85). -/
def sourceOfNat (n : Nat) : Option Source := if h : n < 64 then some ⟨n, h⟩ else none

/-- The kind numbers of R139. -/
def kindCode : FrameKind → Nat
  | .delegate => 1
  | .pick => 2
  | .lever => 3
  | .take => 4
  | .keytake => 5
  | .nextsel => 6
  | .transet => 7
  | .keyset => 8
  | .restore => 9
  | .standing => 12
  | .refusal => 13

/-- The reason codes of R144. -/
def reasonCode : Reason → Nat
  | .notDelegated => 1
  | .restricted => 2
  | .badValue => 3
  | .queueFull => 4
  | .missingSource => 5
  | .loop => 6
  | .loopBroken => 7
  | .transitionRunning => 8
  | .emptyNext => 9
  | .stillFaulty => 10

/-- Whether R139 delivers a frame of this kind number and payload length. -/
def lengthAllowed (kind len : Nat) : Bool :=
  match kind with
  | 1 => len == 1
  | 2 => len == 2
  | 3 => len == 2
  | 4 => len == 1
  | 5 => len == 2
  | 6 => len == 1
  | 7 => decide (2 ≤ len ∧ len ≤ 21)
  | 8 => decide (3 ≤ len ∧ len ≤ 20)
  | 9 => len == 1
  | 12 => len == 29
  | 13 => len == 3
  | _ => false

/-- An assembled frame that R139 delivers: whole, no longer than 40 payload bytes, its check verifying, its kind and length
allowed. -/
def frameArrives (bytes : List Byte) : Bool :=
  let len := (bytes.getD 2 0).toNat
  decide (bytes.length = 5 + len) && decide (len ≤ 40) &&
  checkBytes (frameCheck (bytes.take (3 + len))) == bytes.drop (3 + len) &&
  lengthAllowed ((bytes.getD 1 0).toNat / 16) len

/-! ## Types, patterns and modes -/

/-- Transition type codes (R145). -/
def transTypeOf : Nat → Option TransType
  | 0 => some .mix
  | 1 => some .wipe
  | _ => none

/-- Pattern codes (R145). -/
def patternOf : Nat → Option Pattern
  | 0 => some .horizontal
  | 1 => some .vertical
  | 2 => some .box
  | 3 => some .diamond
  | _ => none

/-- Direction mode codes (R145). -/
def directionModeOf : Nat → Option DirectionMode
  | 0 => some .normal
  | 1 => some .reverse
  | 2 => some .alternate
  | _ => none

/-- Key type codes (R145). -/
def keyTypeOf : Nat → Option KeyType
  | 0 => some .luma
  | 1 => some .linear
  | _ => none

/-- Mask mode codes (R145). -/
def maskModeOf : Nat → Option MaskMode
  | 0 => some .none
  | 1 => some .inside
  | 2 => some .outside
  | _ => none

/-- TAKE mode codes (R142). -/
def takeModeOf : Nat → Option TakeMode
  | 0 => some .cut
  | 1 => some .auto
  | _ => none

/-- KEYTAKE mode codes (R142). -/
def keytakeModeOf : Nat → Option KeytakeMode
  | 0 => some .cut
  | 1 => some .mix
  | _ => none

/-! ## The fields a presence mask names (R145) -/

/-- A one-byte field: its value when present, and the bytes after it. -/
def field8 (present : Bool) (bytes : List Byte) : Option Nat × List Byte :=
  if present then
    match bytes with
    | b :: rest => (some b.toNat, rest)
    | [] => (none, [])
  else (none, bytes)

/-- A two-byte field, most significant byte first: its value when present, and the bytes after it. -/
def field16 (present : Bool) (bytes : List Byte) : Option Nat × List Byte :=
  if present then
    match bytes with
    | hi :: lo :: rest => (some (word16 hi lo), rest)
    | _ => (none, [])
  else (none, bytes)

/-- The sizes of the fields of TRANSET, in the order of the mask bits (R145). -/
def transetSizes : List Nat := [1, 2, 1, 1, 2, 2, 2, 2, 2, 2, 2]

/-- The sizes of the fields of KEYSET, in the order of the mask bits (R145). -/
def keysetSizes : List Nat := [1, 2, 1, 1, 2, 1, 2, 2, 2, 2, 1]

/-- The bytes that the fields named by a mask take (R145). -/
def maskedLength (mask : Nat) (sizes : List Nat) : Nat :=
  (sizes.zipIdx.map fun (size, i) => if mask.testBit i then size else 0).sum

/-- The fields of a TRANSET as carried, before any check. -/
structure RawTranset where
  type : Option Nat
  rate : Option Nat
  pattern : Option Nat
  mode : Option Nat
  cx : Option Nat
  cy : Option Nat
  softness : Option Nat
  borderWidth : Option Nat
  borderY : Option Nat
  borderCb : Option Nat
  borderCr : Option Nat

/-- Reads the fields a TRANSET mask names, each starting after the last byte of the one before (R145). -/
def readTranset (mask : Nat) (b0 : List Byte) : RawTranset :=
  let (type, b1) := field8 (mask.testBit 0) b0
  let (rate, b2) := field16 (mask.testBit 1) b1
  let (pattern, b3) := field8 (mask.testBit 2) b2
  let (mode, b4) := field8 (mask.testBit 3) b3
  let (cx, b5) := field16 (mask.testBit 4) b4
  let (cy, b6) := field16 (mask.testBit 5) b5
  let (softness, b7) := field16 (mask.testBit 6) b6
  let (borderWidth, b8) := field16 (mask.testBit 7) b7
  let (borderY, b9) := field16 (mask.testBit 8) b8
  let (borderCb, b10) := field16 (mask.testBit 9) b9
  let (borderCr, _) := field16 (mask.testBit 10) b10
  { type, rate, pattern, mode, cx, cy, softness, borderWidth, borderY, borderCb, borderCr }

/-- The fields of a KEYSET as carried, before any check. -/
structure RawKeyset where
  type : Option Nat
  clip : Option Nat
  gain : Option Nat
  invert : Option Nat
  rate : Option Nat
  maskMode : Option Nat
  left : Option Nat
  top : Option Nat
  width : Option Nat
  height : Option Nat
  stackPosition : Option Nat

/-- Reads the fields a KEYSET mask names, each starting after the last byte of the one before (R145). -/
def readKeyset (mask : Nat) (b0 : List Byte) : RawKeyset :=
  let (type, b1) := field8 (mask.testBit 0) b0
  let (clip, b2) := field16 (mask.testBit 1) b1
  let (gain, b3) := field8 (mask.testBit 2) b2
  let (invert, b4) := field8 (mask.testBit 3) b3
  let (rate, b5) := field16 (mask.testBit 4) b4
  let (maskMode, b6) := field8 (mask.testBit 5) b5
  let (left, b7) := field16 (mask.testBit 6) b6
  let (top, b8) := field16 (mask.testBit 7) b7
  let (width, b9) := field16 (mask.testBit 8) b8
  let (height, b10) := field16 (mask.testBit 9) b9
  let (stackPosition, _) := field8 (mask.testBit 10) b10
  { type, clip, gain, invert, rate, maskMode, left, top, width, height, stackPosition }

/-! ## Clamps (R152) and legal codes (R151) -/

/-- Rates and key rates: 0 becomes 1, above 999 becomes 999. -/
def clampRate (n : Nat) : Nat := clampNat n 1 999

/-- The centre: above 1023 becomes 1023. -/
def clampCentre (n : Nat) : Nat := min n 1023

/-- Softness and border width: above 255 becomes 255. -/
def clampWidth (n : Nat) : Nat := min n 255

/-- Clip: above 876 becomes 876. -/
def clampClip (n : Nat) : Nat := min n 876

/-- Gain: 0 becomes 1 (its byte holds no more than 255). -/
def clampGain (n : Nat) : Nat := if n = 0 then 1 else n

/-- The mask window: above 4095 becomes 4095. -/
def clampWindow (n : Nat) : Nat := min n 4095

/-- The lever position: above 1024 becomes 1024. -/
def clampPosition (n : Nat) : Nat := min n 1024

/-- A field that is absent or holds a legal code. -/
def legalCode {α : Type} (codes : Nat → Option α) (v : Option Nat) : Bool :=
  match v with
  | none => true
  | some n => (codes n).isSome

/-- The TRANSET fields as clamped; a type, pattern or mode with no legal code is taken as absent (a frame that carries one is
refused before, R151; the configuration block then takes its default, R183). -/
def clampTranset (r : RawTranset) : TransetFields :=
  { type := r.type.bind transTypeOf, rate := r.rate.map clampRate, pattern := r.pattern.bind patternOf,
    mode := r.mode.bind directionModeOf, cx := r.cx.map clampCentre, cy := r.cy.map clampCentre,
    softness := r.softness.map clampWidth, borderWidth := r.borderWidth.map clampWidth, borderY := r.borderY.map sampleOf,
    borderCb := r.borderCb.map sampleOf, borderCr := r.borderCr.map sampleOf }

/-- The KEYSET fields as clamped, likewise. -/
def clampKeyset (r : RawKeyset) : KeysetFields :=
  { type := r.type.bind keyTypeOf, clip := r.clip.map clampClip, gain := r.gain.map clampGain,
    invert := r.invert.map fun n => n.testBit 0, rate := r.rate.map clampRate, maskMode := r.maskMode.bind maskModeOf,
    left := r.left.map clampWindow, top := r.top.map clampWindow, width := r.width.map clampWindow,
    height := r.height.map clampWindow, stackPosition := r.stackPosition }

/-! ## The actions of the panel commands: `none` is BAD_VALUE (R151) -/

/-- PICK (R142, R151). -/
def pickAction (b0 b1 : Byte) : Option Action :=
  (busOfNat b0.toNat).map fun bus => .select bus (sourceOfByte b1)

/-- LEVER (R142, R152). -/
def leverAction (b0 b1 : Byte) : Option Action := some (.lever (clampPosition (word16 b0 b1)))

/-- TAKE (R142, R151). -/
def takeAction (b0 : Byte) : Option Action := (takeModeOf b0.toNat).map .take

/-- KEYTAKE (R142, R151). -/
def keytakeAction (b0 b1 : Byte) : Option Action :=
  match layerOfNat b0.toNat, keytakeModeOf b1.toNat with
  | some l, some m => some (.keytake l m)
  | _, _ => none

/-- NEXTSEL (R142): bit 4 the background flag, bits 3..0 the key mask. -/
def nextselAction (b0 : Byte) : Option Action :=
  some (.nextsel { background := b0.getLsbD 4, mask1 := b0.getLsbD 0, mask2 := b0.getLsbD 1, mask3 := b0.getLsbD 2,
                   mask4 := b0.getLsbD 3 })

/-- RESTORE (R142, R151). -/
def restoreAction (b0 : Byte) : Option Action := (inputOfNat b0.toNat).map .restore

/-- TRANSET (R145, R151, R152). -/
def transetAction (payload : List Byte) : Option Action :=
  match payload with
  | m0 :: m1 :: body =>
    let mask := word16 m0 m1
    let r := readTranset mask body
    if body.length = maskedLength mask transetSizes ∧ legalCode transTypeOf r.type ∧ legalCode patternOf r.pattern ∧
       legalCode directionModeOf r.mode then some (.transet (clampTranset r)) else none
  | _ => none

/-- KEYSET (R145, R151, R152). -/
def keysetAction (payload : List Byte) : Option Action :=
  match payload with
  | b0 :: m0 :: m1 :: body =>
    let mask := word16 m0 m1
    let r := readKeyset mask body
    match layerOfNat b0.toNat with
    | none => none
    | some layer =>
      if body.length = maskedLength mask keysetSizes ∧ legalCode keyTypeOf r.type ∧ legalCode maskModeOf r.maskMode ∧
         legalCode layerOfNat r.stackPosition then some (.keyset layer (clampKeyset r)) else none
  | _ => none

/-! ## Details of refusals decided at arrival (R162) -/

/-- The bus of a PICK when it is legal, and 0 otherwise. -/
def pickDetail (b0 : Byte) : Byte := if (busOfNat b0.toNat).isSome then b0 else 0

/-- The layer of a KEYTAKE or KEYSET when it is legal, and 0 otherwise. -/
def layerDetail (b0 : Byte) : Byte := if (layerOfNat b0.toNat).isSome then b0 else 0

/-- The input of a RESTORE when it is legal, and 0 otherwise. -/
def inputDetail (b0 : Byte) : Byte := if (inputOfNat b0.toNat).isSome then b0 else 0

/-! ## DELEGATE and STANDING -/

/-- The delegation a DELEGATE names: the station of bits 3..0 when bit 7 is set, absent otherwise (R142, R147). -/
def delegationOf (b0 : Byte) : Option Station :=
  if b0.getLsbD 7 then some ⟨b0.toNat % 16, Nat.mod_lt _ (by decide)⟩ else none

/-- The fields a WV-612 keeps of a peer's STANDING (R143, R164). -/
def mixFieldsOf (payload : List Byte) : MixFields :=
  { programme := sourceOfByte (payload.getD 0 0),
    linkGroup := ⟨(payload.getD 1 0).toNat / 64 % 4, Nat.mod_lt _ (by decide)⟩,
    final := (payload.getD 1 0).getLsbD 5,
    contribution := setOfBytes ((payload.drop 10).take 8),
    next := setOfBytes ((payload.drop 18).take 8) }

/-! ## The configuration block (R182 to R184) -/

/-- The configuration in force, validated. -/
structure Configuration where
  format : Format
  switchLine : Nat
  guardLines : Nat
  window : Nat
  offsetLines : Nat
  offsetSamples : Nat
  map : List (Option MapEntry)
  programme : Source
  linkGroup : Fin 4
  leverPolicy : LeverPolicy
  permissions : List Permission
  threshold : Nat
  period : Nat
  dividers : List Nat
  limits : Limits
  matte : Colour
  transition : TransSettings
  keys1 : KeySettings
  keys2 : KeySettings
  keys3 : KeySettings
  keys4 : KeySettings
  deriving DecidableEq, Repr

/-- The default programme source number: 48 plus the station number (R184). -/
def defaultProgramme (station : Station) : Source := ⟨48 + station.val, by omega⟩

/-- Sources 2..13 on inputs 0..11, no backups, failover enable clear; 14..63 UNMAPPED (R184). -/
def defaultMap : List (Option MapEntry) :=
  (List.range 62).map fun i => (inputOfNat i).map fun input => { input := input, backup := none, failover := false }

/-- The default configuration (R184). -/
def Configuration.default (station : Station) : Configuration :=
  { format := .A, switchLine := 7, guardLines := 20, window := 2, offsetLines := 0, offsetSamples := 0, map := defaultMap,
    programme := defaultProgramme station, linkGroup := 0, leverPolicy := .fixed, permissions := List.replicate 16 .full,
    threshold := 8, period := 50, dividers := List.replicate 12 0, limits := .reset,
    matte := { y := 502#10, cb := 512#10, cr := 512#10 }, transition := .reset, keys1 := .reset, keys2 := .reset,
    keys3 := .reset, keys4 := .reset }

/-- A map entry as the block gives it: input, backup and failover enable (R183). -/
structure RawMapEntry where
  input : Nat
  backup : Nat
  failover : Bool

/-- The first pass of R84, in rising source number order: an entry whose input is outside 0..11, or is already named by a
lower-numbered entry, becomes UNMAPPED. `used` holds the inputs named so far. -/
def settleInputs : List Nat → List RawMapEntry → List (Option (InputNo × RawMapEntry))
  | _, [] => []
  | used, e :: rest =>
    match inputOfNat e.input with
    | none => none :: settleInputs used rest
    | some input =>
      if used.contains e.input then none :: settleInputs used rest
      else some (input, e) :: settleInputs (e.input :: used) rest

/-- Whether the second pass of R85 keeps a backup: a source number, not the own programme number, not the entry's own source,
and BLACK, MATTE or an entry mapped by the first pass. -/
def keepsBackup (settled : List (Option (InputNo × RawMapEntry))) (programme own : Nat) (backup : Nat) : Bool :=
  decide (backup < 64) && backup != programme && backup != own &&
  (decide (backup < 2) || ((settled.getD (backup - 2) none).isSome))

/-- The two passes of R84 and R85. -/
def validateMap (programme : Source) (raw : List RawMapEntry) : List (Option MapEntry) :=
  let settled := settleInputs [] raw
  settled.zipIdx.map fun (e, i) =>
    e.map fun (input, r) =>
      { input := input, failover := r.failover,
        backup := if keepsBackup settled programme.val (i + 2) r.backup then sourceOfNat r.backup else none }

/-- A pair of limits as R183 judges it. -/
def limitPair (lo hi dlo dhi : Nat) : Nat × Nat :=
  if 4 ≤ lo ∧ hi ≤ 1019 ∧ lo ≤ hi then (lo, hi) else (dlo, dhi)

/-- Settings with the present fields of a TRANSET replacing theirs (R33). -/
def applyTranset (f : TransetFields) (t : TransSettings) : TransSettings :=
  { type := f.type.getD t.type, rate := f.rate.getD t.rate, pattern := f.pattern.getD t.pattern, mode := f.mode.getD t.mode,
    cx := f.cx.getD t.cx, cy := f.cy.getD t.cy, softness := f.softness.getD t.softness,
    borderWidth := f.borderWidth.getD t.borderWidth,
    border := { y := f.borderY.getD t.border.y, cb := f.borderCb.getD t.border.cb, cr := f.borderCr.getD t.border.cr } }

/-- Settings with the present fields of a KEYSET, less the stack position, replacing theirs (R52). -/
def applyKeyset (f : KeysetFields) (k : KeySettings) : KeySettings :=
  { type := f.type.getD k.type, clip := f.clip.getD k.clip, gain := f.gain.getD k.gain, invert := f.invert.getD k.invert,
    rate := f.rate.getD k.rate, maskMode := f.maskMode.getD k.maskMode, left := f.left.getD k.left, top := f.top.getD k.top,
    width := f.width.getD k.width, height := f.height.getD k.height }

/-- The content of an accepted block, validated field by field (R183). -/
def readConfiguration (station : Station) (content : List Byte) : Configuration :=
  let at8 := fun i => (content.getD i 0).toNat
  let at16 := fun i => word16 (content.getD i 0) (content.getD (i + 1) 0)
  let format : Format := match at8 0 with
    | 1 => .B
    | 2 => .C
    | 3 => .D
    | _ => .A
  let programme : Source :=
    match sourceOfNat (at8 193) with
    | some p => if 2 ≤ p.val then p else defaultProgramme station
    | none => defaultProgramme station
  let raw : List RawMapEntry := (List.range 62).map fun i =>
    { input := at8 (7 + 3 * i), backup := at8 (8 + 3 * i), failover := (content.getD (9 + 3 * i) 0).getLsbD 0 }
  let yPair := limitPair (at16 226) (at16 228) 64 940
  let cPair := limitPair (at16 230) (at16 232) 64 960
  let matteY := clampNat (sampleOf (at16 234)).toNat yPair.1 yPair.2
  let matteCb := clampNat (sampleOf (at16 236)).toNat cPair.1 cPair.2
  let matteCr := clampNat (sampleOf (at16 238)).toNat cPair.1 cPair.2
  let keysAt := fun i => applyKeyset (clampKeyset (readKeyset 1023 ((content.drop (259 + 16 * i)).take 16))) .reset
  { format := format, switchLine := clampNat (at8 1) 1 20, guardLines := clampNat (at8 2) 1 64, window := clampNat (at8 3) 1 4,
    offsetLines := min (at8 4) 63, offsetSamples := min (at16 5) (lineSamples format - 1), map := validateMap programme raw,
    programme := programme,
    linkGroup := if h : at8 194 < 4 then ⟨at8 194, h⟩ else 0,
    leverPolicy := if at8 195 = 1 then .latest else .fixed,
    permissions := (List.range 16).map fun i =>
      match at8 (196 + i) with
      | 0 => .full
      | 1 => .limited
      | _ => .watch,
    threshold := max (at8 212) 1, period := at8 213, dividers := (List.range 12).map fun i => min (at8 (214 + i)) 3,
    limits := { yLo := yPair.1, yHi := yPair.2, cLo := cPair.1, cHi := cPair.2 },
    matte := { y := sampleOf matteY, cb := sampleOf matteCb, cr := sampleOf matteCr },
    transition := applyTranset (clampTranset (readTranset 2047 ((content.drop 240).take 19))) .reset,
    keys1 := keysAt 0, keys2 := keysAt 1, keys3 := keysAt 2, keys4 := keysAt 3 }

/-- The length of the content of an accepted block (R182). -/
def contentLength : Nat := 323

/-- The outcome of the read of the flash (R180, R182). -/
inductive FlashRead where
  /-- The bytes read so far do not complete the read. -/
  | incomplete
  /-- The block is rejected whole. -/
  | rejected
  /-- The block is accepted, with this content. -/
  | accepted (content : List Byte)

/-- The check of R182 over the bytes read from the start of the flash: marker and length as soon as the header is read, then
the sum over every byte of the block but its own two. -/
def checkBlock (bytes : List Byte) : FlashRead :=
  match bytes with
  | m0 :: m1 :: l0 :: l1 :: s0 :: s1 :: rest =>
    if m0.toNat ≠ 87 ∨ m1.toNat ≠ 86 ∨ word16 l0 l1 ≠ contentLength then .rejected
    else if rest.length < contentLength then .incomplete
    else
      let content := rest.take contentLength
      let sum := (([m0, m1, l0, l1] ++ content).map fun b => b.toNat).sum % 65536
      if sum = word16 s0 s1 then .accepted content else .rejected
  | _ => .incomplete

end Sys2Proof.Machine
end

