-- ==== Sys2Proof/Machine/Access.lean ====
section
/-! DEFINITION. Reading and writing the parts of the records by name: buses, layers, inputs, permissions and map entries. -/

namespace Sys2Proof.Machine

/-- The record of a bus. -/
def Buses.get (b : Buses) : Bus → BusRecord
  | .pgm => b.pgm
  | .pst => b.pst
  | .k1f => b.k1f
  | .k1s => b.k1s
  | .k2f => b.k2f
  | .k2s => b.k2s
  | .k3f => b.k3f
  | .k3s => b.k3s
  | .k4f => b.k4f
  | .k4s => b.k4s

/-- The records with one replaced. -/
def Buses.set (b : Buses) (bus : Bus) (r : BusRecord) : Buses :=
  match bus with
  | .pgm => { b with pgm := r }
  | .pst => { b with pst := r }
  | .k1f => { b with k1f := r }
  | .k1s => { b with k1s := r }
  | .k2f => { b with k2f := r }
  | .k2s => { b with k2s := r }
  | .k3f => { b with k3f := r }
  | .k3s => { b with k3s := r }
  | .k4f => { b with k4f := r }
  | .k4s => { b with k4s := r }

/-- The records with a function applied to each. -/
def Buses.map (f : BusRecord → BusRecord) (b : Buses) : Buses :=
  { pgm := f b.pgm, pst := f b.pst, k1f := f b.k1f, k1s := f b.k1s, k2f := f b.k2f, k2s := f b.k2s, k3f := f b.k3f,
    k3s := f b.k3s, k4f := f b.k4f, k4s := f b.k4s }

/-- The ten buses in number order. -/
def allBuses : List Bus := [.pgm, .pst, .k1f, .k1s, .k2f, .k2s, .k3f, .k3s, .k4f, .k4s]

/-- The four layers in order. -/
def allLayers : List Layer := [.l1, .l2, .l3, .l4]

/-- The fill bus of a layer (R7). -/
def fillBus : Layer → Bus
  | .l1 => .k1f
  | .l2 => .k2f
  | .l3 => .k3f
  | .l4 => .k4f

/-- The key-source bus of a layer (R7). -/
def keyBus : Layer → Bus
  | .l1 => .k1s
  | .l2 => .k2s
  | .l3 => .k3s
  | .l4 => .k4s

/-- The record of a layer. -/
def KeyUnit.get (k : KeyUnit) : Layer → LayerRecord
  | .l1 => k.layer1
  | .l2 => k.layer2
  | .l3 => k.layer3
  | .l4 => k.layer4

/-- The unit with one layer's record replaced. -/
def KeyUnit.set (k : KeyUnit) (l : Layer) (r : LayerRecord) : KeyUnit :=
  match l with
  | .l1 => { k with layer1 := r }
  | .l2 => { k with layer2 := r }
  | .l3 => { k with layer3 := r }
  | .l4 => { k with layer4 := r }

/-- The unit with a function of the layer applied to each record. -/
def KeyUnit.mapLayers (f : Layer → LayerRecord → LayerRecord) (k : KeyUnit) : KeyUnit :=
  { k with layer1 := f .l1 k.layer1, layer2 := f .l2 k.layer2, layer3 := f .l3 k.layer3, layer4 := f .l4 k.layer4 }

/-- Whether a layer is in the key mask (R6). -/
def Selection.mask (n : Selection) : Layer → Bool
  | .l1 => n.mask1
  | .l2 => n.mask2
  | .l3 => n.mask3
  | .l4 => n.mask4

/-- The selection is empty when the background flag is clear and the key mask has no members (R6). -/
def Selection.isEmpty (n : Selection) : Bool := !(n.background || n.mask1 || n.mask2 || n.mask3 || n.mask4)

/-- The record of an input. -/
def Monitor.get (m : Monitor) (i : InputNo) : InputRecord := m.inputs.getD i.val InputRecord.reset

/-- The Monitor with one input's record changed. -/
def Monitor.modify (m : Monitor) (i : InputNo) (f : InputRecord → InputRecord) : Monitor :=
  { m with inputs := m.inputs.set i.val (f (m.get i)) }

/-- The class of a station in the permission table (R153). -/
def Intake.permission (t : Intake) (p : Station) : Permission := t.permissions.getD p.val .watch

/-- The map entry of a source 2..63; none when it is UNMAPPED, and for 0 and 1, which have no entry (R82, R83). -/
def Crosspoint.entry (c : Crosspoint) (n : Source) : Option MapEntry :=
  if n.val < 2 then none else c.map.getD (n.val - 2) none

/-- A source this station can show: BLACK, MATTE or a mapped source (R88). -/
def Crosspoint.canShow (c : Crosspoint) (n : Source) : Bool := decide (n.val < 2) || (c.entry n).isSome

/-- The position among the entries 2..63 of the entry that names an input. -/
def Crosspoint.entryNaming (c : Crosspoint) (i : InputNo) : Option (Source × MapEntry) :=
  c.map.zipIdx.findSome? fun (e, k) =>
    match e with
    | none => none
    | some m => if m.input = i then (sourceOfNat (k + 2)).map fun n => (n, m) else none

/-- An input is eligible for failover when the entry naming it has failover enable set and a backup present (R99). -/
def Crosspoint.eligible (c : Crosspoint) (i : InputNo) : Bool :=
  match c.entryNaming i with
  | none => false
  | some (_, m) => m.failover && m.backup.isSome

/-- The entry of a station in the Peer View. -/
def PeerView.find (v : PeerView) (p : Station) : Option PeerEntry := v.entries.find? fun e => e.station == p

/-- The live MIX entries with their announced fields. -/
def PeerView.mixPeers (v : PeerView) : List (Station × MixFields) :=
  v.entries.filterMap fun e =>
    match e.kind with
    | .mix m => some (e.station, m)
    | .panel _ => none

/-- The delegation recorded for a station: that of its live PANEL entry (R147). -/
def PeerView.delegation (v : PeerView) (p : Station) : Option Station :=
  match v.find p with
  | some { kind := .panel d, .. } => d
  | _ => none

/-- Whether a station is a live panel delegated to this station (R147). -/
def State.delegatedHere (s : State) (p : Station) : Bool := s.peers.delegation p == some s.loader.station

end Sys2Proof.Machine
end

