-- ==== Sys2Proof/Machine/Flags.lean ====
section
/-! DEFINITION. What is derived from the record: end states and the preview (R8, R11, R12), the source sets (R13, R14), the
effective sources (R93), verdicts and health (R104 to R107), reachability (R90), the tally closures (R170 to R173), the cycle
test (R174) and the announced values (R177). -/

namespace Sys2Proof.Machine

/-! ## End states and the preview composition -/

/-- The end state of a layer state is ON (R8). -/
def LayerState.endsOn : LayerState → Bool
  | .off => false
  | .falling => false
  | .on => true
  | .rising => true

/-- A layer that is RISING or FALLING. -/
def LayerState.isMoving : LayerState → Bool
  | .rising => true
  | .falling => true
  | .off => false
  | .on => false

/-- The level at rest: 1024 when ON, 0 when OFF (R8). -/
def restLevel (on : Bool) : Nat := if on then 1024 else 0

/-- The state at rest. -/
def restState (on : Bool) : LayerState := if on then .on else .off

/-- The preview level of a layer (R12). -/
def previewLevel (e : Engine) (l : Layer) (r : LayerRecord) : Nat :=
  if e.state = .idle ∧ e.selection.mask l then restLevel (!r.state.endsOn) else restLevel r.state.endsOn

/-- The source of the preview background (R11). -/
def previewSource (e : Engine) (b : Buses) : Source :=
  if e.selection.background then b.pst.effective else b.pgm.effective

/-- The running transition includes the background (R4). -/
def Engine.movesBackground (e : Engine) : Bool := e.state != .idle && e.selection.background

/-- The sources of the layers that a test on their records counts. -/
def layerSources (k : KeyUnit) (b : Buses) (counts : Layer → LayerRecord → Bool) : SourceSet :=
  setUnions (allLayers.map fun l =>
    if counts l (k.get l) then setSingle (b.get (fillBus l)).effective else 0#64)

/-- The contribution set (R13). -/
def contributionSet (e : Engine) (k : KeyUnit) (b : Buses) : SourceSet :=
  setSingle b.pgm.effective |||
  (if e.movesBackground then setSingle b.pst.effective else 0#64) |||
  layerSources k b fun _ r => decide (0 < r.level)

/-- The next-contribution set (R14). -/
def nextContributionSet (e : Engine) (k : KeyUnit) (b : Buses) : SourceSet :=
  setSingle (previewSource e b) ||| layerSources k b fun l r => previewLevel e l r == 1024

/-! ## Effective sources (R93) -/

/-- Whether the input a source is mapped to is FAILED. -/
def sourceFailed (c : Crosspoint) (m : Monitor) (n : Source) : Bool :=
  match c.entry n with
  | none => false
  | some e => (m.get e.input).health == .failed

/-- The effective source that a selected source resolves to (R93). -/
def resolveSource (c : Crosspoint) (m : Monitor) (n : Source) : Source :=
  if n.val < 2 then n
  else match c.entry n with
    | none => 0
    | some e =>
      if (m.get e.input).health != .failed then n
      else match e.backup with
        | none => 0
        | some b =>
          if b.val < 2 then b
          else if c.canShow b && !sourceFailed c m b then b
          else 0

/-- The bus records with every effective source resolved anew. -/
def resolveBuses (c : Crosspoint) (m : Monitor) (b : Buses) : Buses :=
  b.map fun r => { r with effective := resolveSource c m r.selected }

/-! ## Verdicts and health (R104, R106, R107) -/

/-- The verdict over a field record is BAD (R104). -/
def InputRecord.bad (r : InputRecord) : Bool := r.substitutionSeen || r.checkFailureSeen || r.absenceSeen

/-- The count after a verdict (R106). -/
def countAfterVerdict (bad : Bool) (c : Nat) : Nat := if bad then min 255 (c + 1) else c

/-- The health state that a count and eligibility give; FAILED is sticky (R107). -/
def healthAfter (threshold : Nat) (eligible : Bool) (before : Health) (c : Nat) : Health :=
  if before = .failed then .failed
  else if c = 0 then .clean
  else if c < threshold then .suspect
  else if eligible then .failed
  else .faulty

/-! ## Reachability and closures -/

/-- Everything a peer announces: its contribution and next-contribution sets together. -/
def MixFields.both (m : MixFields) : SourceSet := m.contribution ||| m.next

/-- One round of a closure: the sources reached, with the sources of every node whose programme number is among them. -/
def closureStep (nodes : List (Source × SourceSet)) (x : SourceSet) : SourceSet :=
  x ||| setUnions (nodes.map fun (p, y) => if setHas x p then y else 0#64)

/-- The sources reached from `x` by following programme numbers to the sets of their nodes, in as many rounds as there are
nodes (each node joins at most once: R90, R171). -/
def closure (nodes : List (Source × SourceSet)) (x : SourceSet) : SourceSet :=
  nodes.foldl (fun acc _ => closureStep nodes acc) x

/-- The loop check through the peers (R90): the source is the programme number of a live MIX peer from which the own
programme number is reachable. -/
def closesLoop (v : PeerView) (own source : Source) : Bool :=
  let nodes := v.mixPeers.map fun (_, m) => (m.programme, m.both)
  v.mixPeers.any fun (_, m) => m.programme == source && setHas (closure nodes m.both) own

/-- A node of the tally computation (R169). -/
structure TallyNode where
  final : Bool
  programme : Option Source
  contribution : SourceSet
  next : SourceSet
  deriving DecidableEq, Repr

/-- The nodes of the tally computation: this station and each live MIX entry (R169). -/
def tallyNodes (s : State) : List TallyNode :=
  { final := s.loader.final, programme := s.crosspoint.programme, contribution := s.sets.contribution, next := s.sets.next } ::
    s.peers.mixPeers.map fun (_, m) =>
      { final := m.final, programme := some m.programme, contribution := m.contribution, next := m.next }

/-- The contribution sets of the nodes, by programme number, for the closures of R171 and R172. -/
def contributionNodes (nodes : List TallyNode) : List (Source × SourceSet) :=
  nodes.filterMap fun n => n.programme.map fun p => (p, n.contribution)

/-- The ON-AIR set (R171): the closure from the contribution sets of the roots. -/
def onAirSet (nodes : List TallyNode) : SourceSet :=
  closure (contributionNodes nodes) (setUnions ((nodes.filter (·.final)).map (·.contribution)))

/-- The next-contribution sets of the roots together. -/
def rootNexts (nodes : List TallyNode) : SourceSet := setUnions ((nodes.filter (·.final)).map (·.next))

/-- The contribution sets of the preview stations together (R172): the nodes whose number is in a root's next-contribution set,
and by closure those whose number is in a preview station's contribution set. -/
def previewContributions (nodes : List TallyNode) : SourceSet :=
  closure (contributionNodes nodes)
    (setUnions ((contributionNodes nodes).map fun (p, y) => if setHas (rootNexts nodes) p then y else 0#64))

/-- The PREVIEW set (R172). -/
def previewSet (nodes : List TallyNode) : SourceSet :=
  (rootNexts nodes ||| previewContributions nodes) &&& ~~~(onAirSet nodes)

/-- The state of the tally line of an input (R173). -/
def tallyLine (st : StationState) (c : Crosspoint) (onAir preview : SourceSet) (i : InputNo) : TallyState :=
  if st ≠ .running then .dark
  else match c.entryNaming i with
    | none => .dark
    | some (n, _) => if setHas onAir n then .onAir else if setHas preview n then .preview else .dark

/-- The Tally Unit's record for a state (R169 to R173). -/
def tallyOf (s : State) : Tally :=
  let nodes := tallyNodes s
  let onAir := onAirSet nodes
  let preview := previewSet nodes
  { onAir := onAir, preview := preview, noFinal := !nodes.any (·.final),
    lines := (List.finRange 12).map (tallyLine s.loader.state s.crosspoint onAir preview) }

/-! ## The cycle test (R174) -/

/-- The lower-numbered nodes of the reduced graph, with everything they announce (R174). -/
def reducedNodes (s : State) : List (Source × SourceSet) :=
  (s.peers.mixPeers.filter fun (p, _) => decide (p < s.loader.station)).map fun (_, m) => (m.programme, m.both)

/-- The named numbers when this station must break a cycle, and none when it need not (R174). -/
def cycleNumbers (s : State) : Option (List Source) :=
  match s.crosspoint.programme with
  | none => none
  | some own =>
    let nodes := reducedNodes s
    let forward := closure nodes (s.sets.contribution ||| s.sets.next)
    if setHas forward own then
      some (own :: (nodes.filter fun (p, y) => setHas forward p && setHas (closure nodes y) own).map Prod.fst)
    else none

/-! ## The announced values (R177) -/

/-- The announced values of the state as it stands (R177). -/
def announcedOf (s : State) : Announced :=
  { engine := s.engine.state, type := s.engine.settings.type, progress := s.engine.progress,
    pgm := s.crosspoint.buses.pgm.effective, pst := s.crosspoint.buses.pst.effective, layer1 := s.keys.layer1.state,
    layer2 := s.keys.layer2.state, layer3 := s.keys.layer3.state, layer4 := s.keys.layer4.state,
    contribution := s.sets.contribution, next := s.sets.next, health := s.monitor.inputs.map (·.health),
    refState := s.raster.refState, duplicate := s.peers.duplicate, noFinal := s.tally.noFinal,
    leverOwner := s.intake.leverOwner }

end Sys2Proof.Machine
end

