-- ==== Sys2Proof/Machine/Ops.lean ====
section
/-! DEFINITION. The named operations that more than one command uses: refusals, STANDING made pending, the lever owner, and the
answer an owner gives to an offered entry. -/

namespace Sys2Proof.Machine

/-! ## The port's slots -/

/-- The port with a refusal record appended, or discarded when the queue holds 4 (R136). -/
def Port.refuse (p : Port) (r : RefusalRecord) : Port :=
  if p.refusals.length < Config.refusalCapacity then { p with refusals := p.refusals ++ [r] } else p

/-- Makes a refusal pending to a panel (R136, R162). -/
def refuse (target : Station) (kind : FrameKind) (reason : Reason) (detail : Byte) (s : State) : State :=
  s.setPort (s.port.refuse { target := target, kind := kind, reason := reason, detail := detail, errors := 0 })

/-- An attempt of STANDING is in progress. -/
def Port.sendingStanding (p : Port) : Bool :=
  match p.attempt with
  | some a => a.slot == .standing
  | none => false

/-- The port with STANDING made pending: the pending mark, and the renewed mark when an attempt of STANDING is in progress
(R134, R137). -/
def Port.pendStanding (p : Port) : Port :=
  { p with standingPending := true, standingRenewed := p.standingRenewed || p.sendingStanding }

/-- Makes STANDING pending and returns the repeat count to 0 (R177). -/
def pendStanding (s : State) : State :=
  (s.setPort s.port.pendStanding).setPeers { s.peers with repeatCount := 0 }

/-! ## The lever owner -/

/-- The engine with the lever disengaged and its latest position absent (R41). -/
def Engine.disengage (e : Engine) : Engine := { e with engaged := false, latest := none }

/-- Records the lever owner; a change of owner disengages the lever (R41, R156). -/
def setOwner (o : Option Station) (s : State) : State :=
  if s.intake.leverOwner = o then s
  else (s.setIntake { s.intake with leverOwner := o }).setEngine s.engine.disengage

/-- A station that may own the lever: a live panel delegated here with FULL permission (R154, R156). -/
def State.mayOwn (s : State) (p : Station) : Bool := s.delegatedHere p && s.intake.permission p == .full

/-- The lowest-numbered station that may own the lever (R154). -/
def State.lowestOwner (s : State) : Option Station := (List.finRange 16).find? s.mayOwn

/-- Works the lever owner out again: under FIXED the lowest-numbered panel that may own it (R154); under LATEST the present owner,
for as long as it may own it (R155, R156). Outside RUNNING the owner is held as it stands, absent (R163). -/
def reviseOwner (s : State) : State :=
  if s.loader.state ≠ .running then s
  else match s.intake.leverPolicy with
    | .fixed => setOwner s.lowestOwner s
    | .latest =>
      match s.intake.leverOwner with
      | none => s
      | some p => if s.mayOwn p then s else setOwner none s

/-! ## Answers to offered entries -/

/-- The answer an owner gives to an entry offered at a switch point (R160). -/
inductive Answer where
  | applied (s : State)
  | deferred
  | refused (reason : Reason) (detail : Byte)

/-- The frame kind a refusal of an entry names: a SELECT is reported as PICK (R144, R162). -/
def Action.frameKind : Action → FrameKind
  | .select .. => .pick
  | .take .. => .take
  | .lever .. => .lever
  | .transet .. => .transet
  | .nextsel .. => .nextsel
  | .keytake .. => .keytake
  | .keyset .. => .keyset
  | .restore .. => .restore

/-! ## Fields -/

/-- Every bus's effective source resolved from the selections, the map and the health states as they stand (R93). -/
def resolveSources (s : State) : State :=
  s.setCrosspoint { s.crosspoint with buses := resolveBuses s.crosspoint s.monitor s.crosspoint.buses }

/-- The contribution and next-contribution sets taken from the composition as it stands (R13, R14). -/
def deriveSets (s : State) : State :=
  s.setSets { contribution := contributionSet s.engine s.keys s.crosspoint.buses,
              next := nextContributionSet s.engine s.keys s.crosspoint.buses }

end Sys2Proof.Machine
end

