-- ==== Sys2Proof/Machine/Line.lean ====
section
/-! DEFINITION. The Cue Line Port: the frames it sends, and the life of an attempt (R128 to R144). -/

namespace Sys2Proof.Machine

/-! ## Frames sent (R129, R142 to R144) -/

/-- A number as one byte. -/
def byteOf (n : Nat) : Byte := BitVec.ofNat 8 n

/-- A frame with its header and frame check: class 3, this station as sender (R129, R142). -/
def sendFrame (sender : Station) (kind : FrameKind) (target : Station) (payload : List Byte) : List Byte :=
  let body := byteOf (3 * 64 + sender.val * 4) :: byteOf (kindCode kind * 16 + target.val) :: byteOf payload.length :: payload
  body ++ checkBytes (frameCheck body)

/-- Engine state codes (R143). -/
def engineCode : EngineState → Nat
  | .idle => 0
  | .auto => 1
  | .lever => 2

/-- Transition type codes (R143). -/
def typeCode : TransType → Nat
  | .mix => 0
  | .wipe => 1

/-- Reference state codes (R143). -/
def refCode : RefState → Nat
  | .free => 0
  | .realign => 1
  | .locked => 2

/-- Layer state codes (R143). -/
def layerCode : LayerState → Nat
  | .off => 0
  | .rising => 1
  | .on => 2
  | .falling => 3

/-- Health state codes (R143). -/
def healthCode : Health → Nat
  | .clean => 0
  | .suspect => 1
  | .faulty => 2
  | .failed => 3

/-- A flag as a number. -/
def flagCode (b : Bool) : Nat := if b then 1 else 0

/-- The 24-bit number of the health states: input i occupies the bits of weights 2^(2i+1) and 2^(2i) (R143). -/
def healthNumber (hs : List Health) : Nat := hs.foldr (fun h acc => acc * 4 + healthCode h) 0

/-- The lever owner byte of STANDING (R143). With no lever owner present bits 3..0 are sent as 0 (DESIGN CHOICE, log entry 41: the table gives
them for a present owner alone). -/
def ownerByte : Option Station → Byte
  | none => 0
  | some p => byteOf (128 + p.val)

/-- The 29-byte payload of STANDING, from the state at the instant the attempt begins (R137, R143, R176). The reference state, no-final
flag and composition are those of the field in progress; the duplicate flag, lever owner and health states stand at the instant. The bits
of bytes 0, 3 and 9 that the table does not list are sent as 0 (DESIGN CHOICE, log entry 42: R143 gives them no value). -/
def standingPayload (s : State) : List Byte :=
  let h := healthNumber (s.monitor.inputs.map (·.health))
  [byteOf (match s.crosspoint.programme with
     | some p => p.val
     | none => 0),
   byteOf (s.intake.linkGroup.val * 64 + flagCode s.loader.final * 32 + refCode s.peers.announced.refState * 8 +
     flagCode s.loader.configDefault * 4 + flagCode s.peers.duplicate * 2 + flagCode s.tally.noFinal),
   0,
   byteOf (engineCode s.engine.state * 16 + typeCode s.engine.settings.type)] ++
  bytes16 s.engine.progress ++
  [byteOf s.crosspoint.buses.pgm.effective.val, byteOf s.crosspoint.buses.pst.effective.val,
   byteOf (layerCode s.keys.layer1.state + layerCode s.keys.layer2.state * 4 + layerCode s.keys.layer3.state * 16 +
     layerCode s.keys.layer4.state * 64),
   ownerByte s.intake.leverOwner] ++
  setBytes s.sets.contribution ++ setBytes s.sets.next ++
  [byteOf (h / 65536), byteOf (h / 256), byteOf h]

/-- The STANDING frame of a state: its own number as target (R137). -/
def standingFrame (s : State) : List Byte := sendFrame s.loader.station .standing s.loader.station (standingPayload s)

/-- The REFUSAL frame of a record (R144). -/
def refusalFrame (sender : Station) (r : RefusalRecord) : List Byte :=
  sendFrame sender .refusal r.target [byteOf (kindCode r.kind), byteOf (reasonCode r.reason), r.detail]

/-! ## Attempts (R131 to R135) -/

/-- The conditions under which the port begins an attempt (R131). -/
def State.mayBegin (s : State) : Bool :=
  s.loader.state == .running && s.port.lineState == .idle && s.port.attempt.isNone &&
  decide (s.port.budgetCount < Config.frameBudget) && (s.port.standingPending || !s.port.refusals.isEmpty)

/-- Begins an attempt (R131, R137): STANDING when it is pending, the oldest refusal otherwise. Its start bit makes the line BUSY, and the port
reads its own frame back (R128, R132, R133; log entry 14). -/
def beginAttempt (s : State) : State :=
  let p := s.port
  let f := s.raster.field
  if p.standingPending then
    s.setPort { p with lineState := .busy, rx := .assembling, standingRenewed := false,
                       attempt := some { slot := .standing, field := f, passedByte0 := false, frame := standingFrame s } }
  else match p.refusals with
    | [] => s
    | r :: _ =>
      s.setPort { p with lineState := .busy, rx := .assembling,
                         attempt := some { slot := .refusal, field := f, passedByte0 := false,
                                           frame := refusalFrame s.loader.station r } }

/-- The attempt in progress passes byte 0: the budget count rises when it began in the budget field (R135). An attempt that has passed it
already stays as it is. -/
def Port.passByte0 (p : Port) : Port :=
  match p.attempt with
  | none => p
  | some a =>
    if a.passedByte0 then p
    else { p with attempt := some { a with passedByte0 := true },
                  budgetCount := if a.field = p.budgetField then p.budgetCount + 1 else p.budgetCount }

/-- Arbitration lost in byte 0: the line is released, and the port, which has assembled the frame on it from its beginning, goes on as its
receiver; no count is charged (R132). -/
def Port.loseArbitration (p : Port) : Port :=
  match p.attempt with
  | none => p
  | some a => if a.passedByte0 then p else { p with attempt := none }

/-- Every frame whose transmit error count has reached 3 is dropped (R133): STANDING keeps its pending mark only when it was renewed
(log entry 16), and a refusal leaves the head of its queue. -/
def Port.dropSpent (p : Port) : Port :=
  let p := if Config.errorLimit ≤ p.standingErrors then
      { p with standingPending := p.standingRenewed, standingRenewed := false, standingErrors := 0 }
    else p
  match p.refusals with
  | [] => p
  | r :: rest => if Config.errorLimit ≤ r.errors then { p with refusals := rest } else p

/-- A transmit error abandons the attempt and raises its frame's error count; the port goes on reading the line as a receiver (R133). -/
def Port.transmitError (p : Port) : Port :=
  match p.attempt with
  | none => p
  | some a =>
    let p := { p with attempt := none }
    match a.slot with
    | .standing => ({ p with standingErrors := p.standingErrors + 1 } : Port).dropSpent
    | .refusal =>
      match p.refusals with
      | [] => p
      | r :: rest => ({ p with refusals := { r with errors := r.errors + 1 } :: rest } : Port).dropSpent

/-- The attempt completes (R134). It has passed byte 0 (log entry 17). -/
def Port.completeAttempt (p : Port) : Port :=
  match p.attempt with
  | none => p
  | some a =>
    let p := { p.passByte0 with attempt := none, rx := .ready }
    match a.slot with
    | .standing => { p with standingPending := p.standingRenewed, standingRenewed := false, standingErrors := 0 }
    | .refusal => { p with refusals := p.refusals.tail }

/-! ## The line and reception (R128, R138) -/

/-- The line becomes IDLE; a frame it cuts short is discarded (R128, R138). -/
def Port.lineIdle (p : Port) : Port := { p with lineState := .idle, rx := .ready }

/-- The line becomes BUSY at a dominant level; a port that is ready takes it as the start of a frame (R128, R138). -/
def Port.lineBusy (p : Port) : Port :=
  match p.lineState with
  | .busy => p
  | .idle =>
    { p with lineState := .busy,
             rx := match p.rx with
               | .ready => .assembling
               | .waitIdle => .waitIdle
               | .assembling => .assembling }

/-- Whether an assembly that ended so is discarded without delivery (R138, R139). -/
def isDiscarded (bytes : List Byte) (ending : AssemblyEnd) : Bool :=
  match ending with
  | .framingFault => true
  | .overlong => decide (3 ≤ bytes.length) && decide (40 < (bytes.getD 2 0).toNat)
  | .truncated => true
  | .checked => !frameArrives bytes

/-- The reception phase after a discard: after a framing fault or a length above 40 the port waits for IDLE (R138). -/
def rxAfterDiscard : AssemblyEnd → RxState
  | .framingFault => .waitIdle
  | .overlong => .waitIdle
  | .truncated => .ready
  | .checked => .ready

/-- The line state after a discard: BUSY, since the port has read the assembly's dominant levels, but for a truncated frame, which a change
to IDLE ends and which leaves the line state as it stands (R128, R138; log entry 15). -/
def lineAfterDiscard (before : LineState) : AssemblyEnd → LineState
  | .framingFault => .busy
  | .overlong => .busy
  | .truncated => before
  | .checked => .busy

/-- The port with an assembly that ended in a discard. While it waits for IDLE it assembles nothing and discards nothing (R138, R141). -/
def Port.discard (p : Port) (ending : AssemblyEnd) : Port :=
  if p.rx = .waitIdle then p else { p with lineState := lineAfterDiscard p.lineState ending, rx := rxAfterDiscard ending }

/-- The port with a new field's budget (R135). -/
def Port.newBudget (p : Port) (field : Nat) : Port := { p with budgetCount := 0, budgetField := field }

end Sys2Proof.Machine
end

