-- ==== Sys2Proof/Machine/Intake.lean ====
section
/-! DEFINITION. What an arriving frame does: the Peer View takes it first (R140, R165 to R168), and Control Intake then judges a
panel command and queues it (R147 to R159). -/

namespace Sys2Proof.Machine

/-! ## The Peer View at an arrival (R165, R166) -/

/-- The entries, in rising station order, with the entry of one station put in or replaced. -/
def putEntry (e : PeerEntry) : List PeerEntry → List PeerEntry
  | [] => [e]
  | x :: rest =>
    if e.station < x.station then e :: x :: rest
    else if x.station = e.station then e :: rest
    else x :: putEntry e rest

/-- The view with the entry of one station put in or replaced. -/
def PeerView.put (v : PeerView) (e : PeerEntry) : PeerView := { v with entries := putEntry e v.entries }

/-- STANDING: a MIX entry with the frame's values, age 0 (R165). -/
def PeerView.hearStanding (v : PeerView) (p : Station) (m : MixFields) : PeerView :=
  v.put { station := p, age := 0, kind := .mix m }

/-- DELEGATE: a PANEL entry with the frame's delegation, age 0 (R165). -/
def PeerView.hearDelegate (v : PeerView) (p : Station) (d : Option Station) : PeerView :=
  v.put { station := p, age := 0, kind := .panel d }

/-- REFUSAL or a panel command: the sender's entry refreshed, or a PANEL entry with no delegation (R165). -/
def PeerView.refresh (v : PeerView) (p : Station) : PeerView :=
  match v.find p with
  | some e => v.put { e with station := p, age := 0 }
  | none => v.put { station := p, age := 0, kind := .panel none }

/-- A duplicate arrival: it bars the station in LISTENING and sets the duplicate flag in RUNNING (R168, R181). -/
def hearDuplicate (s : State) : State :=
  match s.loader.state with
  | .loading => s
  | .listening => s.setLoader { s.loader with state := .barred }
  | .running => s.setPeers { s.peers with duplicate := true, quiet := 0 }
  | .barred => s

/-! ## The Field Action Queue (R157 to R159) -/

/-- The coalescing keys (R158). -/
inductive CoalescingKey where
  | select (bus : Bus)
  | lever
  | transet
  | nextsel
  | keyset (layer : Layer)
  deriving DecidableEq, Repr

/-- The coalescing key of an entry; TAKE, KEYTAKE and RESTORE have none (R158). -/
def Action.key : Action → Option CoalescingKey
  | .select bus _ => some (.select bus)
  | .take _ => none
  | .lever _ => some .lever
  | .transet _ => some .transet
  | .nextsel _ => some .nextsel
  | .keytake _ _ => none
  | .keyset layer _ => some (.keyset layer)
  | .restore _ => none

/-- An entry of the queue has this coalescing key. -/
def Entry.hasKey (k : CoalescingKey) (e : Entry) : Bool := e.action.key == some k

/-- The queue holds an entry with the coalescing key of this action (R159). -/
def holdsKey (queue : List Entry) (a : Action) : Bool :=
  match a.key with
  | none => false
  | some k => queue.any (Entry.hasKey k)

/-- The queue without the entry that has the coalescing key of this action (R159). -/
def withoutKey (queue : List Entry) (a : Action) : List Entry :=
  match a.key with
  | none => queue
  | some k => queue.filter fun e => !e.hasKey k

/-- The queue takes this action: an entry with its key waits, or there is room (R159). -/
def takesAction (queue : List Entry) (a : Action) : Bool :=
  holdsKey queue a || decide (queue.length < Config.queueCapacity)

/-- The switch point at which an entry that arrives now falls due (R157). -/
def Raster.due (r : Raster) : Nat := r.field + (if r.deadlineFlag then 2 else 1)

/-- The queue with an action joined (R159). -/
def joined (queue : List Entry) (a : Action) (sender : Station) (due : Nat) : List Entry :=
  withoutKey queue a ++ [{ action := a, sender := sender, due := due }]

/-- An accepted action joins the queue with its due switch point, or its frame is refused with QUEUE_FULL (R148 step 7, R159). -/
def joinQueue (sender : Station) (detail : Byte) (a : Action) (s : State) : State :=
  if takesAction s.intake.queue a then
    s.setIntake { s.intake with queue := joined s.intake.queue a sender s.raster.due }
  else refuse sender a.frameKind .queueFull detail s

/-! ## Judging a command (R148 to R156) -/

/-- Whether a class of the permission table allows a command (R153). -/
def Permission.allows (c : Permission) (a : Action) : Bool :=
  match c with
  | .full => true
  | .watch => false
  | .limited =>
    match a with
    | .select bus _ => bus != .pgm
    | .transet _ => true
    | .nextsel _ => true
    | .keyset _ _ => true
    | .take _ => false
    | .lever _ => false
    | .keytake _ _ => false
    | .restore _ => false

/-- What steps 1 to 5 of R148 decide. -/
inductive Verdict where
  | discard
  | refuse (reason : Reason)
  | accept (a : Action)
  deriving DecidableEq, Repr

/-- The conditions of a link take on the target and the sender (R150), but for the mode. -/
def State.linkTake (s : State) (sender target : Station) : Bool :=
  decide (s.intake.linkGroup ≠ 0) &&
  (match s.peers.find target with
    | some { kind := .mix m, .. } => m.linkGroup == s.intake.linkGroup
    | _ => false) &&
  s.peers.delegation sender == some target && s.intake.permission sender == .full

/-- A command for another station: taken here only when it is a TAKE that is a link take (R148 step 2, R150). -/
def State.judgeElsewhere (s : State) (sender target : Station) (parsed : Option Action) : Verdict :=
  match parsed with
  | some (.take m) => if s.linkTake sender target then .accept (.take m) else .discard
  | _ => .discard

/-- Steps 1 to 5 of R148, on the Peer View as the arrival has left it. -/
def State.judge (s : State) (sender target : Station) (parsed : Option Action) : Verdict :=
  if sender = s.loader.station then .discard
  else if target ≠ s.loader.station then s.judgeElsewhere sender target parsed
  else if ¬ s.delegatedHere sender then .refuse .notDelegated
  else match parsed with
    | none => .refuse .badValue
    | some a => if (s.intake.permission sender).allows a then .accept a else .refuse .restricted

/-- The lever ownership rule of the policy (R148 step 6, R154, R155): none when the frame is discarded, and otherwise the state with
its sender as owner. Under LATEST a frame that the queue then refuses leaves the owner as it stood (R148; log entry 34). -/
def ownLever (sender : Station) (a : Action) (s : State) : Option State :=
  match s.intake.leverPolicy with
  | .fixed => if s.intake.leverOwner = some sender then some s else none
  | .latest => if takesAction s.intake.queue a then some (setOwner (some sender) s) else some s

/-- Steps 6 and 7 of R148 on an accepted action. -/
def acceptCommand (sender : Station) (detail : Byte) (a : Action) (s : State) : State :=
  match a with
  | .lever _ =>
    match ownLever sender a s with
    | none => s
    | some t => joinQueue sender detail a t
  | _ => joinQueue sender detail a s

/-- Control Intake on a panel command in RUNNING (R148); in LISTENING and BARRED it is discarded (R163). -/
def takeCommand (sender target : Station) (kind : FrameKind) (detail : Byte) (parsed : Option Action) (s : State) : State :=
  if s.loader.state ≠ .running then s
  else match s.judge sender target parsed with
    | .discard => s
    | .refuse reason => refuse sender kind reason detail s
    | .accept a => acceptCommand sender detail a s

/-! ## Delivery (R139, R140) -/

/-- The port after an arrival: it is ready for the next start bit, and the line, on which it has read the frame's dominant levels, is BUSY
until its next IDLE (R128; log entry 15). -/
def Port.arrived (p : Port) : Port := { p with lineState := .busy, rx := .ready }

/-- The delivery of an arrival: none while the reset input is asserted, while the port waits for IDLE and so assembles nothing (R138, R141),
or in LOADING; a frame with this station's own number is a duplicate arrival; any other does what its kind does (R140, R168). -/
def deliver (sender : Station) (effect : State → State) (s : State) : State :=
  if s.loader.inputAsserted ∨ s.port.rx = .waitIdle then s
  else
    let t := s.setPort s.port.arrived
    if t.loader.state = .loading then t
    else if sender = t.loader.station then hearDuplicate t
    else effect t

/-- STANDING at the Peer View, with the lever owner worked out again (R165, R166). -/
def recordStanding (sender : Station) (m : MixFields) (s : State) : State :=
  reviseOwner (s.setPeers (s.peers.hearStanding sender m))

/-- DELEGATE at the Peer View, with the lever owner worked out again (R147, R165, R166). -/
def recordDelegate (sender : Station) (d : Option Station) (s : State) : State :=
  reviseOwner (s.setPeers (s.peers.hearDelegate sender d))

/-- REFUSAL, or a panel command, at the Peer View (R165). -/
def recordHeard (sender : Station) (s : State) : State := s.setPeers (s.peers.refresh sender)

/-- A panel command: the Peer View takes it, and Control Intake then judges it (R140). -/
def receiveCommand (sender target : Station) (kind : FrameKind) (detail : Byte) (parsed : Option Action) (s : State) : State :=
  deliver sender (fun t => takeCommand sender target kind detail parsed (recordHeard sender t)) s

/-! ## Ages and expiry (R167) -/

/-- Every age advanced by one (R167). -/
def PeerView.grow (v : PeerView) : PeerView := { v with entries := v.entries.map fun e => { e with age := e.age + 1 } }

/-- An entry whose age has reached 24 (R167). -/
def PeerEntry.spent (e : PeerEntry) : Bool := decide (Config.expiryAge ≤ e.age)

/-- The spent entries that a test names are removed, and the lever owner worked out again (R156, R167). -/
def expireWhere (named : PeerEntry → Bool) (s : State) : State :=
  reviseOwner (s.setPeers { s.peers with entries := s.peers.entries.filter fun e => !(e.spent && named e) })

end Sys2Proof.Machine
end

