-- ==== Sys2Proof/Machine/Transition.lean ====
section
/-! DEFINITION. The Transition Engine: starting, advancing, completing and abandoning a transition, the lever, and the entries
the engine owns (R19 to R44, R95). -/

namespace Sys2Proof.Machine

/-! ## Levels that follow the progress (R43) -/

/-- A layer with its level taken from the progress when its moving flag is set (R43). -/
def followProgress (p : Nat) (r : LayerRecord) : LayerRecord :=
  if r.moving then
    match r.state with
    | .rising => { r with level := p }
    | .falling => { r with level := 1024 - p }
    | .off => r
    | .on => r
  else r

/-- Writes the progress, and with it the levels of the moving layers (R43). -/
def setProgress (p : Nat) (s : State) : State :=
  (s.setEngine { s.engine with progress := p }).setKeys (s.keys.mapLayers fun _ r => followProgress p r)

/-! ## Start, completion and abandonment -/

/-- A layer of the key mask at the start of a transition: turned toward the opposite of its end state, its own mix ended (R24). -/
def turnLayer (r : LayerRecord) : LayerRecord :=
  { r with state := if r.state.endsOn then .falling else .rising, elapsed := 0, moving := true }

/-- The start of a transition (R24). -/
def startTransition (s : State) : State :=
  s.setKeys (s.keys.mapLayers fun l r => if s.engine.selection.mask l then turnLayer r else r)

/-- A layer brought to rest ON or OFF. -/
def restLayer (on : Bool) (r : LayerRecord) : LayerRecord :=
  { r with state := restState on, level := restLevel on, elapsed := 0, moving := false }

/-- A layer at a completion: a moving layer comes to rest at its far end (R29). -/
def landLayer (r : LayerRecord) : LayerRecord := if r.moving then restLayer r.state.endsOn r else r

/-- A layer at an abandonment: a moving layer returns to where it stood (R32). -/
def returnLayer (r : LayerRecord) : LayerRecord := if r.moving then restLayer (!r.state.endsOn) r else r

/-- PGM and PST with selections and last selectors exchanged, each previous source the selection the bus held before (R95). -/
def swapBuses (b : Buses) : Buses :=
  { b with
    pgm := { b.pgm with selected := b.pst.selected, previous := b.pgm.selected, lastSelector := b.pst.lastSelector },
    pst := { b.pst with selected := b.pgm.selected, previous := b.pst.selected, lastSelector := b.pgm.lastSelector } }

/-- The engine at rest in IDLE at progress 0 (R19, R29, R32). -/
def Engine.atRest (e : Engine) : Engine :=
  { e with state := .idle, progress := 0, startProgress := 0, elapsed := 0, remaining := e.settings.rate, engaged := false }

/-- Whether a completion toggles the direction bit (R31). -/
def togglesDirection (t : TransSettings) : Bool := t.type == .wipe && t.mode == .alternate

/-- The completion of R29: the swap when the background is in the selection, the moving layers at rest at their far ends, the engine
IDLE with the lever disengaged, and the direction bit toggled where R31 requires. -/
def complete (s : State) : State :=
  let e := s.engine
  let c := s.crosspoint
  ((s.setEngine { e.atRest with direction := e.direction ^^ togglesDirection e.settings }).setKeys
    (s.keys.mapLayers fun _ r => landLayer r)).setCrosspoint
    (if e.selection.background then { c with buses := swapBuses c.buses } else c)

/-- The abandonment of R32. -/
def abandon (s : State) : State :=
  (s.setEngine s.engine.atRest).setKeys (s.keys.mapLayers fun _ r => returnLayer r)

/-! ## The lever (R37 to R42) -/

/-- The derived progress of a lever position (R37). -/
def derivedProgress (sense : Sense) (position : Nat) : Nat :=
  match sense with
  | .up => position
  | .down => 1024 - position

/-- A derived progress at the far end (R37). -/
def atFarEnd (d : Nat) : Bool := decide (1008 ≤ d)

/-- The pickup: an end zone sets the sense and engages, any other position disengages (R38). -/
def Engine.pickUp (e : Engine) (position : Nat) : Engine :=
  if position ≤ Config.endZone then { e with sense := .up, engaged := true }
  else if 1008 ≤ position then { e with sense := .down, engaged := true }
  else { e with engaged := false }

/-- A lever evaluation in LEVER with the lever engaged (R39). -/
def followLever (d : Nat) (s : State) : State :=
  if atFarEnd d then complete s
  else if d ≤ Config.endZone then abandon s
  else setProgress d s

/-- A lever evaluation in IDLE (R38). -/
def evaluateIdle (position : Nat) (s : State) : State :=
  let e := s.engine
  let d := derivedProgress e.sense position
  if e.engaged ∧ Config.endZone < d ∧ ¬ e.selection.isEmpty then
    let t := startTransition s
    let t := setProgress d (t.setEngine { t.engine with state := .lever })
    if atFarEnd d then complete t else t
  else s.setEngine (e.pickUp position)

/-- A lever evaluation in LEVER (R39, R40). -/
def evaluateLever (position : Nat) (s : State) : State :=
  let e := s.engine
  let d := derivedProgress e.sense position
  if e.engaged then followLever d s
  else if absDiff d e.progress ≤ Config.endZone then followLever d (s.setEngine { e with engaged := true })
  else s

/-- A lever evaluation with the latest lever position; with an absent position it leaves the engine as it stands (R37). -/
def evaluate (s : State) : State :=
  match s.engine.latest with
  | none => s
  | some position =>
    match s.engine.state with
    | .idle => evaluateIdle position s
    | .lever => evaluateLever position s
    | .auto => s

/-! ## The advance (R21, R22) -/

/-- The progress of an AUTO run at elapsed count `n` (R22). -/
def autoProgress (p0 n remaining : Nat) : Nat := p0 + n * (1024 - p0) / remaining

/-- An AUTO run at its present count: completed when the count has reached the remaining rate, and at the progress of R22 otherwise. -/
def settleRun (s : State) : State :=
  let e := s.engine
  if e.remaining ≤ e.elapsed then complete s else setProgress (autoProgress e.startProgress e.elapsed e.remaining) s

/-- The advance of an AUTO run (R22). -/
def advanceRun (s : State) : State := settleRun (s.setEngine { s.engine with elapsed := s.engine.elapsed + 1 })

/-- The engine's advance at a switch point (R21). -/
def advanceEngine (s : State) : State :=
  match s.engine.state with
  | .auto => advanceRun s
  | .idle => evaluate s
  | .lever => evaluate s

/-! ## The entries the engine owns -/

/-- An AUTO run begun from progress `p0` with remaining rate `r`, at count 1 (R23, R25). -/
def beginRun (p0 r : Nat) (s : State) : State :=
  settleRun (s.setEngine { s.engine with state := .auto, startProgress := p0, remaining := r, elapsed := 1, engaged := false })

/-- The remaining rate of a conversion: max(1, ceil((1024 − p0) × R / 1024)) (R25). -/
def convertedRate (p0 rate : Nat) : Nat := max 1 (((1024 - p0) * rate + 1023) / 1024)

/-- TAKE AUTO (R23, R25, R26). -/
def offerTakeAuto (s : State) : Answer :=
  match s.engine.state with
  | .auto => .refused .transitionRunning 0
  | .idle =>
    if s.engine.selection.isEmpty then .refused .emptyNext 0
    else .applied (beginRun 0 s.engine.settings.rate (startTransition s))
  | .lever => .applied (beginRun s.engine.progress (convertedRate s.engine.progress s.engine.settings.rate) s)

/-- TAKE CUT (R26, R27, R28). -/
def offerTakeCut (s : State) : Answer :=
  match s.engine.state with
  | .idle => if s.engine.selection.isEmpty then .refused .emptyNext 0 else .applied (complete (startTransition s))
  | .auto => .applied (complete s)
  | .lever => .applied (complete s)

/-- LEVER: applied when its sender is the present owner, consumed without effect otherwise (R36). -/
def offerLever (sender : Station) (position : Nat) (s : State) : Answer :=
  if s.intake.leverOwner = some sender then .applied (evaluate (s.setEngine { s.engine with latest := some position }))
  else .applied s

/-- The engine with TRANSET fields applied in IDLE; the remaining rate takes the rate (R19, R33). -/
def Engine.withTranset (e : Engine) (f : TransetFields) : Engine :=
  { e with settings := applyTranset f e.settings, remaining := (applyTranset f e.settings).rate }

/-- TRANSET: applied in IDLE, deferred whole otherwise (R33). -/
def offerTranset (f : TransetFields) (s : State) : Answer :=
  if s.engine.state = .idle then .applied (s.setEngine (s.engine.withTranset f)) else .deferred

/-- NEXTSEL: applied in IDLE, deferred whole otherwise (R34). -/
def offerNextsel (n : Selection) (s : State) : Answer :=
  if s.engine.state = .idle then .applied (s.setEngine { s.engine with selection := n }) else .deferred

end Sys2Proof.Machine
end

