-- ==== Sys2Proof/Machine/Keys.lean ====
section
/-! DEFINITION. The Key Layer Unit: the own key mix, key takes, key settings and the stack order (R45 to R61). -/

namespace Sys2Proof.Machine

/-- A layer in its own key mix (R7). -/
def LayerRecord.ownMix (r : LayerRecord) : Bool := r.state.isMoving && !r.moving

/-- The level of an own key mix at its elapsed count (R45, R47). -/
def mixLevel (rising : Bool) (n rate : Nat) : Nat := if rising then n * 1024 / rate else 1024 - n * 1024 / rate

/-- An own key mix at its present count: at rest at its end when the count has reached or passed the key rate, and at the level of R47
otherwise. -/
def settleMix (r : LayerRecord) : LayerRecord :=
  if r.settings.rate ≤ r.elapsed then restLayer r.state.endsOn r
  else { r with level := mixLevel r.state.endsOn r.elapsed r.settings.rate }

/-- The advance of a layer in its own key mix (R47). -/
def advanceMix (r : LayerRecord) : LayerRecord :=
  if r.ownMix then settleMix { r with elapsed := r.elapsed + 1 } else r

/-- The unit's advance at a switch point (R46). -/
def advanceKeys (s : State) : State := s.setKeys (s.keys.mapLayers fun _ r => advanceMix r)

/-- A layer that leaves rest in its own key mix, at count 1 (R55). -/
def beginMix (r : LayerRecord) : LayerRecord :=
  settleMix { r with state := if r.state.endsOn then .falling else .rising, elapsed := 1, moving := false }

/-- KEYTAKE (R54 to R57). -/
def offerKeytake (l : Layer) (m : KeytakeMode) (s : State) : Answer :=
  let r := s.keys.get l
  if r.moving then .refused .transitionRunning (layerNumber l)
  else if r.state.isMoving then
    match m with
    | .cut => .applied (s.setKeys (s.keys.set l (restLayer r.state.endsOn r)))
    | .mix => .refused .transitionRunning (layerNumber l)
  else
    match m with
    | .cut => .applied (s.setKeys (s.keys.set l (restLayer (!r.state.endsOn) r)))
    | .mix => .applied (s.setKeys (s.keys.set l (beginMix r)))

/-- The stack order with a layer moved to position `k`, 1..4, the others keeping their relative order (R53). -/
def moveInStack (stack : List Layer) (l : Layer) (k : Nat) : List Layer :=
  let others := stack.erase l
  others.take (k - 1) ++ l :: others.drop (k - 1)

/-- Some layer is RISING or FALLING (R52). -/
def KeyUnit.anyMoving (k : KeyUnit) : Bool := allLayers.any fun l => (k.get l).state.isMoving

/-- KEYSET (R52, R53). -/
def offerKeyset (l : Layer) (f : KeysetFields) (s : State) : Answer :=
  if f.stackPosition.isSome ∧ (s.engine.state ≠ .idle ∨ s.keys.anyMoving) then .deferred
  else
    let r := s.keys.get l
    let k := s.keys.set l { r with settings := applyKeyset f r.settings }
    .applied (s.setKeys
      (match f.stackPosition with
      | none => k
      | some p => { k with stack := moveInStack k.stack l p }))

end Sys2Proof.Machine
end

