-- ==== Sys2Proof/Machine/Sources.lean ====
section
/-! DEFINITION. The Crosspoint Resolver: SELECT with its three checks, and the reversion of a loop (R87 to R98). -/

namespace Sys2Proof.Machine

/-- A bus record with an accepted SELECT applied (R91). -/
def BusRecord.accept (r : BusRecord) (n : Source) (sender : Station) : BusRecord :=
  if n = r.selected then { r with lastSelector := some sender }
  else { r with previous := r.selected, selected := n, lastSelector := some sender }

/-- The checks of R88 to R90 in their order: the reason of the first that fails. -/
def selectRefusal (s : State) (n : Source) : Option Reason :=
  if ¬ s.crosspoint.canShow n then some .missingSource
  else if s.crosspoint.programme = some n then some .loop
  else match s.crosspoint.programme with
    | none => none
    | some own => if closesLoop s.peers own n then some .loop else none

/-- SELECT (R88 to R92). -/
def offerSelect (sender : Station) (bus : Bus) (n : Source) (s : State) : Answer :=
  match selectRefusal s n with
  | some reason => .refused reason (busNumber bus)
  | none =>
    let b := s.crosspoint.buses
    .applied (s.setCrosspoint { s.crosspoint with buses := b.set bus ((b.get bus).accept n sender) })

/-- A bus record reverted away from the named numbers (R96). What the reverted bus then shows is resolved from its new selection as R93
does: when that is a source whose input is FAILED and whose backup is itself a named number, the bus shows that number until the next
cycle test (DESIGN CHOICE, log entry 40: R96 gives these steps, and R175 says that no reverted bus shows a named number). -/
def BusRecord.revert (r : BusRecord) (named : List Source) : BusRecord :=
  { r with selected := if named.contains r.previous then 0 else r.previous, previous := 0, lastSelector := none }

/-- The refusal LOOP_BROKEN of a reverted bus, to its last selector when that is present and live (R96). -/
def refuseLoopBroken (bus : Bus) (last : Option Station) (s : State) : State :=
  match last with
  | none => s
  | some p => if (s.peers.find p).isSome then refuse p .pick .loopBroken (busNumber bus) s else s

/-- Reverts one bus when its effective source, as its selection and the health states give it at this moment, is a named number (R96). -/
def revertBus (named : List Source) (s : State) (bus : Bus) : State :=
  let b := s.crosspoint.buses
  let r := b.get bus
  if named.contains (resolveSource s.crosspoint s.monitor r.selected) then
    refuseLoopBroken bus r.lastSelector
      (s.setCrosspoint { s.crosspoint with buses := b.set bus (r.revert named) })
  else s

/-- The cycle test and, when this station must break a cycle, the reversion of its buses (R96, R174). Several buses are reverted in the
order of their numbers, which is then the order of their LOOP_BROKEN records and decides which of them the full refusal queue discards
(DESIGN CHOICE, log entry 35: R96, R136 and R162 give no order). -/
def breakCycle (s : State) : State :=
  match cycleNumbers s with
  | none => s
  | some named => allBuses.foldl (revertBus named) s

end Sys2Proof.Machine
end

