-- ==== Sys2Proof/Machine/Arithmetic.lean ====
section
/-! DEFINITION. Picture Arithmetic (R62 to R81): the per-sample computation of a line of PGM or PVW. -/

namespace Sys2Proof.Machine

/-! ## Pictures entering the arithmetic (R62, R63) -/

/-- One line of a source's picture: a constant colour (BLACK, MATTE, default fill), or the line an input's buffer supplied. -/
inductive LinePicture where
  | flat (c : Colour)
  | live (l : VideoLine)
  deriving DecidableEq, Repr

/-- The luma sample at x. -/
def LinePicture.y (p : LinePicture) (x : Nat) : Nat :=
  match p with
  | .flat c => c.y.toNat
  | .live l => (l.y.getD x 64#10).toNat

/-- The Cb sample of pair j. -/
def LinePicture.cb (p : LinePicture) (j : Nat) : Nat :=
  match p with
  | .flat c => c.cb.toNat
  | .live l => (l.cb.getD j 512#10).toNat

/-- The Cr sample of pair j. -/
def LinePicture.cr (p : LinePicture) (j : Nat) : Nat :=
  match p with
  | .flat c => c.cr.toNat
  | .live l => (l.cr.getD j 512#10).toNat

/-! ## The mix operator (R64) -/

/-- mix(a, b, m) of R64. -/
def mix (a b m : Nat) : Nat := (a * (1024 - m) + b * m + 512) / 1024

/-! ## Normalised coordinates, patterns and zones (R67, R71 to R74) -/

/-- The normalised coordinate u (R67). -/
def normU (f : Format) (x : Nat) : Nat := x * 1024 / activeWidth f

/-- The normalised coordinate v (R67). -/
def normV (f : Format) (y : Nat) : Nat := y * 1024 / activeHeight f

/-- The pattern value before direction (R71). -/
def patternBase (p : Pattern) (cx cy u v : Nat) : Nat :=
  match p with
  | .horizontal => u
  | .vertical => v
  | .box => min 1023 (2 * max (absDiff u cx) (absDiff v cy))
  | .diamond => min 1023 (absDiff u cx + absDiff v cy)

/-- The pattern value after direction (R72). -/
def patternValue (t : TransSettings) (direction : Bool) (u v : Nat) : Nat :=
  let p := patternBase t.pattern t.cx t.cy u v
  match t.mode with
  | .normal => p
  | .reverse => 1023 - p
  | .alternate => if direction then 1023 - p else p

/-- The zones of a wipe (R73). -/
inductive Zone where
  | outside
  | soft (s : Nat)
  | border
  | inside
  deriving DecidableEq, Repr

/-- The edge E of R73. -/
def wipeEdge (progress softness borderWidth : Nat) : Nat := progress * (1024 + softness + borderWidth) / 1024

/-- The zone of a sample with pattern value `p` (R73). -/
def wipeZone (progress softness borderWidth p : Nat) : Zone :=
  let e := wipeEdge progress softness borderWidth
  if e ≤ p then .outside
  else if e - p < softness then .soft ((e - p) * 1024 / softness)
  else if e - p < softness + borderWidth then .border
  else .inside

/-- One component of the background sample in a zone (R73). -/
def zoneSample (z : Zone) (borderWidth pgm pst border : Nat) : Nat :=
  match z with
  | .outside => pgm
  | .soft s => if 0 < borderWidth then mix pgm border s else mix pgm pst s
  | .border => border
  | .inside => pst

/-! ## The background (R69, R70) -/

/-- The form of the background of a line (R69): one picture at full strength, a MIX, or a WIPE. -/
inductive Background where
  | single (p : LinePicture)
  | mix (pgm pst : LinePicture) (progress : Nat)
  | wipe (pgm pst : LinePicture) (t : TransSettings) (direction : Bool) (progress : Nat)
  deriving DecidableEq, Repr

/-- The zone of luma position x of row y. -/
def zoneAt (f : Format) (t : TransSettings) (direction : Bool) (progress x y : Nat) : Zone :=
  wipeZone progress t.softness t.borderWidth (patternValue t direction (normU f x) (normV f y))

/-- Background luma at x of row y. -/
def Background.y (b : Background) (f : Format) (x row : Nat) : Nat :=
  match b with
  | .single p => p.y x
  | .mix p q m => Machine.mix (p.y x) (q.y x) m
  | .wipe p q t d m => zoneSample (zoneAt f t d m x row) t.borderWidth (p.y x) (q.y x) t.border.y.toNat

/-- Background Cb of pair j of row y, decided by the even luma sample (R65). -/
def Background.cb (b : Background) (f : Format) (j row : Nat) : Nat :=
  match b with
  | .single p => p.cb j
  | .mix p q m => Machine.mix (p.cb j) (q.cb j) m
  | .wipe p q t d m => zoneSample (zoneAt f t d m (2 * j) row) t.borderWidth (p.cb j) (q.cb j) t.border.cb.toNat

/-- Background Cr of pair j of row y, decided by the even luma sample (R65). -/
def Background.cr (b : Background) (f : Format) (j row : Nat) : Nat :=
  match b with
  | .single p => p.cr j
  | .mix p q m => Machine.mix (p.cr j) (q.cr j) m
  | .wipe p q t d m => zoneSample (zoneAt f t d m (2 * j) row) t.borderWidth (p.cr j) (q.cr j) t.border.cr.toNat

/-! ## Key alpha (R76 to R79) -/

/-- The reduced key signal k of R76. -/
def keySignal (luma : Nat) : Nat := min (luma - 64) 876

/-- The alpha from clip, gain and invert (R77). -/
def shapedAlpha (clip gain : Nat) (invert : Bool) (k : Nat) : Nat :=
  let a := if k ≤ clip then 0 else min 1024 ((k - clip) * gain * 64 / 876)
  if invert then 1024 - a else a

/-- Whether a sample lies in the mask window (R51). -/
def inWindow (k : KeySettings) (x row : Nat) : Bool :=
  decide (k.left ≤ x ∧ x < k.left + k.width ∧ k.top ≤ row ∧ row < k.top + k.height)

/-- The alpha after the mask (R78). -/
def maskedAlpha (k : KeySettings) (x row alpha : Nat) : Nat :=
  match k.maskMode with
  | .none => alpha
  | .inside => if inWindow k x row then alpha else 0
  | .outside => if inWindow k x row then 0 else alpha

/-- The alpha scaled by the level (R79). -/
def scaledAlpha (alpha level : Nat) : Nat := alpha * level / 1024

/-- A layer as a line is composited from it: its settings, its level in the composition rendered, its fill picture and the
picture its key signal is read from (R49, R76). -/
structure KeyedLayer where
  settings : KeySettings
  level : Nat
  fill : LinePicture
  signal : LinePicture
  deriving DecidableEq, Repr

/-- The effective alpha a_e of luma position x of row y (R76 to R79). -/
def KeyedLayer.alpha (l : KeyedLayer) (x row : Nat) : Nat :=
  let k := l.settings
  scaledAlpha (maskedAlpha k x row (shapedAlpha k.clip k.gain k.invert (keySignal (l.signal.y x)))) l.level

/-! ## Compositing and the limiter (R80, R81) -/

/-- What a line is rendered from: the background and the layers in stack order, bottom first. -/
structure Scene where
  background : Background
  layers : List KeyedLayer
  deriving DecidableEq, Repr

/-- The finished luma sample at x of row y, before the limiter (R80). -/
def Scene.y (s : Scene) (f : Format) (row x : Nat) : Nat :=
  s.layers.foldl (fun below l => mix below (l.fill.y x) (l.alpha x row)) (s.background.y f x row)

/-- The finished Cb sample of pair j of row y, with the even luma sample's alpha (R65, R80). -/
def Scene.cb (s : Scene) (f : Format) (row j : Nat) : Nat :=
  s.layers.foldl (fun below l => mix below (l.fill.cb j) (l.alpha (2 * j) row)) (s.background.cb f j row)

/-- The finished Cr sample of pair j of row y, with the even luma sample's alpha (R65, R80). -/
def Scene.cr (s : Scene) (f : Format) (row j : Nat) : Nat :=
  s.layers.foldl (fun below l => mix below (l.fill.cr j) (l.alpha (2 * j) row)) (s.background.cr f j row)

/-- The limiter on a luma sample (R81). -/
def Limits.luma (l : Limits) (v : Nat) : Sample := sampleOf (clampNat v l.yLo l.yHi)

/-- The limiter on a colour-difference sample (R81). -/
def Limits.chroma (l : Limits) (v : Nat) : Sample := sampleOf (clampNat v l.cLo l.cHi)

/-- An output line with its timing reference, BLACK passed through the limiter in its horizontal blanking, the given active samples, and
its check word (R68, R81, R115). -/
def outputLine (f : Format) (lim : Limits) (line : Nat) (y cb cr : List Sample) : OutputLine :=
  let b := blankingSamples f
  { line := line, fieldFlag := fieldOfLine f line == .two, blankingFlag := !isActiveLine f line,
    blankY := List.replicate b (lim.luma 64), blankCb := List.replicate (b / 2) (lim.chroma 512),
    blankCr := List.replicate (b / 2) (lim.chroma 512), y := y, cb := cb, cr := cr, check := lineCheck y cb cr }

/-- The samples an output line carries at a sample count: those of horizontal blanking below L − W, and from there those of the active
positions, each pair of luma samples with its Cb and Cr (R65, R68, R113). -/
def OutputLine.sampleAt (l : OutputLine) (f : Format) (sample : Nat) : Colour :=
  match activePosition f sample with
  | none => { y := l.blankY.getD sample 64, cb := l.blankCb.getD (sample / 2) 512, cr := l.blankCr.getD (sample / 2) 512 }
  | some x => { y := l.y.getD x 64, cb := l.cb.getD (x / 2) 512, cr := l.cr.getD (x / 2) 512 }

/-- A line of BLACK passed through the limiter (R16, R68). -/
def blackLine (f : Format) (lim : Limits) (line : Nat) : OutputLine :=
  let w := activeWidth f
  outputLine f lim line (List.replicate w (lim.luma 64)) (List.replicate (w / 2) (lim.chroma 512))
    (List.replicate (w / 2) (lim.chroma 512))

/-- An active line rendered from a scene and limited (R80, R81). -/
def renderLine (f : Format) (lim : Limits) (line : Nat) (s : Scene) : OutputLine :=
  let w := activeWidth f
  let row := frameRow f line
  outputLine f lim line ((List.range w).map fun x => lim.luma (s.y f row x))
    ((List.range (w / 2)).map fun j => lim.chroma (s.cb f row j))
    ((List.range (w / 2)).map fun j => lim.chroma (s.cr f row j))

end Sys2Proof.Machine
end

