-- ==== Sys2Proof/Machine/Condition.lean ====
section
/-! DEFINITION. The Input Condition Monitor: the alignment buffers, the field records, the leak, the count, the health states and
RESTORE (R99 to R112). -/

namespace Sys2Proof.Machine

/-! ## The alignment buffer (R100, R101) -/

/-- The lines an output line may be behind the counter and still be one that has started in the present pass (log entry 8). -/
def halfFrame (f : Format) : Nat := frameLines f / 2

/-- The output has already started the output line with this number (R100; log entry 8). -/
def Raster.hasStarted (r : Raster) (n : Nat) : Bool :=
  r.startedLines.contains n && decide (linesAhead r.format n r.line ≤ halfFrame r.format)

/-- The buffer after the completed arrival of an active line that is not late: the oldest line is overrun when it holds A (R100). -/
def bufferAppend (window : Nat) (buffer : List VideoLine) (l : VideoLine) : List VideoLine :=
  if window ≤ buffer.length then buffer.tail ++ [l] else buffer ++ [l]

/-- Reads the line with number `n`: the line, and the buffer without it and every older line; when it is not held, the buffer as it
stands (R101). Of two held lines with this number the older is read, and the newer one is kept (DESIGN CHOICE, log entry 36: R101 does not
say which). -/
def bufferRead (n : Nat) (buffer : List VideoLine) : Option VideoLine × List VideoLine :=
  match buffer.dropWhile fun l => l.line != n with
  | [] => (none, buffer)
  | l :: rest => (some l, rest)

/-- One input at the start of active output line `n`: the line it supplies, and its record (R101). -/
def InputRecord.serve (r : InputRecord) (n : Nat) : Option VideoLine × InputRecord :=
  match bufferRead n r.buffer with
  | (some l, rest) => (some l, { r with buffer := rest })
  | (none, _) => (none, { r with substitutionSeen := true })

/-- A line of a stream of the configured format: a frame line number and the sample counts of the format (R103, R113). -/
def ofFormat (f : Format) (l : VideoLine) : Bool :=
  decide (1 ≤ l.line ∧ l.line ≤ frameLines f) && l.y.length == activeWidth f && l.cb.length * 2 == activeWidth f &&
  l.cr.length * 2 == activeWidth f

/-- The record of an input after a line of its stream has completed arrival: a line of another format is an absence that
leaves the buffer as it is (R103; log entries 9 and 43), a check word that does not match is a check failure (R103; log entry 10), and
an active line that is not late joins the buffer (R100). -/
def InputRecord.arrive (r : InputRecord) (raster : Raster) (window : Nat) (l : VideoLine) : InputRecord :=
  if ¬ ofFormat raster.format l then { r with absenceSeen := true }
  else
    { r with
      checkFailureSeen := r.checkFailureSeen || lineCheck l.y l.cb l.cr != l.check,
      buffer := if isActiveLine raster.format l.line && !raster.hasStarted l.line then bufferAppend window r.buffer l else r.buffer }

/-! ## Verdict, leak, count and health (R104 to R107) -/

/-- The field record cleared to gather the next field (R104). -/
def InputRecord.clearField (r : InputRecord) : InputRecord :=
  { r with substitutionSeen := false, checkFailureSeen := false, absenceSeen := false }

/-- The primary leak counter advanced by one; with P = 0 it stays at 0 (R105). -/
def Monitor.advancePrimary (m : Monitor) : Monitor := { m with primary := if m.period = 0 then 0 else m.primary + 1 }

/-- The primary tick: when the counter has reached P it returns to 0 and each divider counter advances (R105). -/
def Monitor.tick (m : Monitor) : Monitor :=
  if 0 < m.period ∧ m.period ≤ m.primary then
    { m with primary := 0, inputs := m.inputs.map fun r => { r with divider := r.divider + 1 } }
  else m

/-- The leak of an input: when its divider has counted D + 1 ticks the divider returns to 0 and a count above 0 falls by one (R105,
R106). -/
def InputRecord.leak (r : InputRecord) : InputRecord :=
  if r.leakDivider + 1 ≤ r.divider then { r with divider := 0, count := r.count - 1 } else r

/-- The verdict taken into the count, the health state set from it, and the field record cleared (R104, R106, R107). -/
def InputRecord.judge (r : InputRecord) (threshold : Nat) (eligible : Bool) : InputRecord :=
  let c := countAfterVerdict r.bad r.count
  { r.clearField with count := c, health := healthAfter threshold eligible r.health c }

/-- The Monitor's update at a switch point (R105 to R107). -/
def Monitor.update (m : Monitor) (c : Crosspoint) : Monitor :=
  let t := m.advancePrimary.tick
  { t with inputs := t.inputs.mapIdx fun i r =>
      r.leak.judge t.threshold (match inputOfNat i with
        | some input => c.eligible input
        | none => false) }

/-- The Monitor's advance at a switch point: nothing in LOADING, the gathering begun at the first switch point out of LOADING, and the
update at every later one (R104, R111). -/
def advanceMonitor (s : State) : State :=
  if s.loader.state = .loading then s
  else if s.monitor.gathering then s.setMonitor (s.monitor.update s.crosspoint)
  else s.setMonitor { s.monitor with gathering := true, inputs := s.monitor.inputs.map InputRecord.clearField }

/-! ## RESTORE (R109, R110) -/

/-- RESTORE (R109). -/
def offerRestore (i : InputNo) (s : State) : Answer :=
  let r := s.monitor.get i
  if r.health ≠ .failed then .applied s
  else if r.count < s.monitor.threshold then
    .applied (s.setMonitor (s.monitor.modify i fun r => { r with health := if r.count = 0 then .clean else .suspect }))
  else .refused .stillFaulty (BitVec.ofNat 8 i.val)

end Sys2Proof.Machine
end

