-- ==== Sys2Proof/Machine/Output.lean ====
section
/-! DEFINITION. The start of an output line: the buffers are read, and both outputs carry the line (R101, R114, R115, R15, R16). -/

namespace Sys2Proof.Machine

/-- One line of a source's picture, given what each input supplies for the line: BLACK, MATTE, the input's line, or default fill
(R62, R63). -/
def sourcePicture (c : Crosspoint) (matte : Colour) (supplied : List (Option VideoLine)) (n : Source) : LinePicture :=
  if n = 0 then .flat .black
  else if n = 1 then .flat matte
  else match c.entry n with
    | none => .flat .black
    | some e =>
      match supplied.getD e.input.val none with
      | none => .flat .black
      | some l => .live l

/-- A layer as it is keyed, at a given level: its fill picture, and its key signal from the fill (LUMA) or the key-source bus (LINEAR)
(R49, R60, R76). -/
def keyedLayer (b : Buses) (pic : Source → LinePicture) (l : Layer) (r : LayerRecord) (level : Nat) : KeyedLayer :=
  let fill := pic (b.get (fillBus l)).effective
  { settings := r.settings, level := level, fill := fill,
    signal := match r.settings.type with
      | .luma => fill
      | .linear => pic (b.get (keyBus l)).effective }

/-- The scene of PGM: the field composition (R15, R69). -/
def programmeScene (s : State) (pic : Source → LinePicture) : Scene :=
  let b := s.crosspoint.buses
  let e := s.engine
  { background :=
      if e.movesBackground then
        match e.settings.type with
        | .mix => .mix (pic b.pgm.effective) (pic b.pst.effective) e.progress
        | .wipe => .wipe (pic b.pgm.effective) (pic b.pst.effective) e.settings e.direction e.progress
      else .single (pic b.pgm.effective),
    layers := s.keys.stack.map fun l => keyedLayer b pic l (s.keys.get l) (s.keys.get l).level }

/-- The scene of PVW: the preview composition (R11, R12, R69). -/
def previewScene (s : State) (pic : Source → LinePicture) : Scene :=
  let b := s.crosspoint.buses
  { background := .single (pic (previewSource s.engine b)),
    layers := s.keys.stack.map fun l => keyedLayer b pic l (s.keys.get l) (previewLevel s.engine l (s.keys.get l)) }

/-- What both outputs carry on the line the counter stands at: the compositions on an active line in RUNNING, and BLACK through the
limiter otherwise (R15, R16, R68). -/
def outputLines (s : State) (supplied : List (Option VideoLine)) : Picture :=
  let f := s.raster.format
  let n := s.raster.line
  let p := s.picture
  if s.loader.state = .running ∧ isActiveLine f n then
    let pic := sourcePicture s.crosspoint p.matte supplied
    { p with pgm := renderLine f p.limits n (programmeScene s pic), pvw := renderLine f p.limits n (previewScene s pic) }
  else { p with pgm := blackLine f p.limits n, pvw := blackLine f p.limits n }

/-- The lines started in the present pass, once active line `n` has started: those further than half a frame behind are forgotten
(log entry 8). -/
def Raster.noteStart (r : Raster) (n : Nat) : Raster :=
  { r with startedLines := n :: r.startedLines.filter fun m => decide (m ≠ n ∧ linesAhead r.format m n ≤ halfFrame r.format) }

/-- The line start at the line the counter stands at: on an active line every input's buffer is read, or the input is substituted, and
both outputs carry the line (R101, R114, R115). -/
def beginLine (s : State) : State :=
  let n := s.raster.line
  if isActiveLine s.raster.format n then
    let served := s.monitor.inputs.map fun r => r.serve n
    let t := (s.setMonitor { s.monitor with inputs := served.map Prod.snd }).setRaster (s.raster.noteStart n)
    t.setPicture (outputLines t (served.map Prod.fst))
  else s.setPicture (outputLines s [])

/-- The counters moved on to the start of the next line (R114). -/
def Raster.nextLine (r : Raster) : Raster :=
  { r with line := if frameLines r.format ≤ r.line then 1 else r.line + 1, sample := 0 }

/-- The start of the next output line. -/
def startLine (s : State) : State := beginLine (s.setRaster s.raster.nextLine)

/-- The counters moved to another place: a line they come to stand on starts, and nothing starts where they stay on their line (R115; log
entries 5 and 11). -/
def moveCounters (r : Raster) (s : State) : State :=
  if r.line = s.raster.line then s.setRaster r else beginLine (s.setRaster r)

/-- The samples PGM carries where the counters stand (R68, R113, R115). -/
def State.programmeNow (s : State) : Colour := s.picture.pgm.sampleAt s.raster.format s.raster.sample

/-- The samples PVW carries where the counters stand (R68, R113, R115). -/
def State.previewNow (s : State) : Colour := s.picture.pvw.sampleAt s.raster.format s.raster.sample

end Sys2Proof.Machine
end

