-- ==== Sys2Proof/Machine/Timing.lean ====
section
/-! DEFINITION. The Raster Timing Generator: where the counters stand, the cue deadline, the deviation of a reference start, where a
reload puts the counters, and the miss check (R113 to R126). -/

namespace Sys2Proof.Machine

/-- The counters run on to the nearest of some lines: they stay where they are when they stand on one, and otherwise stand at its
start (log entry 5). -/
def Raster.runTo (r : Raster) (ls : List Nat) : Raster :=
  match nearestAhead r.format r.line ls with
  | 0 => r
  | k + 1 => { r with line := wrapLine r.format (r.line + (k + 1)), sample := 0 }

/-- The lines of the switch points (R122). -/
def Raster.switchLines (r : Raster) : List Nat := Machine.switchLines r.format r.switchLine

/-- The lines of the cue deadlines (R123). -/
def Raster.deadlineLines (r : Raster) : List Nat := Machine.deadlineLines r.format r.switchLine r.guardLines

/-- The lines of the miss checks (R121). -/
def Raster.missCheckLines (r : Raster) : List Nat := Machine.missCheckLines r.format r.offsetLines

/-- The counters run on to the nearest miss check point: the offset's samples into its line (R121; log entry 5). -/
def Raster.runToMissCheck (r : Raster) : Raster :=
  let t := r.runTo r.missCheckLines
  { t with sample := max t.sample t.offsetSamples }

/-- The cue deadline taken where the counters stand (R123). -/
def Raster.takeDeadline (r : Raster) : Raster := { r with deadlineFlag := true }

/-- A switch point taken where the counters stand: the deadline flag is cleared, and the next field opens with the identity of the raster
field that holds the line (R122). -/
def Raster.openField (r : Raster) : Raster :=
  { r with deadlineFlag := false, field := r.field + 1, fieldId := fieldOfLine r.format r.line }

/-! ## The reference (R116 to R121) -/

/-- The place in the frame where the counters expect a start of field `fi` (R116). -/
def Raster.expectedPosition (r : Raster) (fi : FieldId) : Nat :=
  framePosition r.format (expectedLine r.format fi r.offsetLines) r.offsetSamples

/-- The deviation of a start of field `fi` taken now (R116). -/
def Raster.deviation (r : Raster) (fi : FieldId) : Int :=
  Machine.deviation r.format (framePosition r.format r.line r.sample) (r.expectedPosition fi)

/-- The sample counts from the expected point of field `fi` to that of the next field, less the deviation: what the rate of R119 spreads
over the nominal field period (log entry 12). -/
def Raster.countsToNextStart (r : Raster) (fi : FieldId) (dev : Int) : Nat :=
  let fromHere := r.expectedPosition fi
  let next := r.expectedPosition (nextField r.format fi)
  let distance := if interlaced r.format then (next + frameSamples r.format - fromHere) % frameSamples r.format
    else frameSamples r.format
  ((distance : Int) - dev).toNat

/-- A reload forward passes over, or lands on, a deadline line; the line that the counters stand on is among the lines passed over, as the
displaced start of the worked example from line 1096 counts it (R123, R124). -/
def Raster.crossesDeadline (r : Raster) (newLine : Nat) : Bool :=
  r.deadlineLines.any fun d =>
    decide (linesAhead r.format r.line d ≤ linesAhead r.format r.line newLine)

/-- The counters reloaded on a start of field `fi` with deviation `dev` (R116, R124): a deadline line passed over forward sets the
deadline flag, and so does one that the counters move onto, either way (log entry 11). -/
def Raster.reload (r : Raster) (fi : FieldId) (dev : Int) : Raster :=
  let newLine := expectedLine r.format fi r.offsetLines
  { r with
    line := newLine, sample := r.offsetSamples,
    deadlineFlag := r.deadlineFlag || (decide (dev < 0) && r.crossesDeadline newLine) ||
      (decide (dev ≠ 0) && r.deadlineLines.contains newLine) }

/-- Lock left when the miss count has reached 3 (R121). -/
def Raster.leaveLock (r : Raster) : Raster :=
  if Config.missLimit ≤ r.missCount then { r with refState := .free, missCount := 0, rate := .nominal } else r

/-- The miss check where the counters stand (R121). -/
def Raster.checkMiss (r : Raster) : Raster :=
  ({ r with startSeen := false, missCount := if r.startSeen then r.missCount else r.missCount + 1 } : Raster).leaveLock

/-- The raster restarted in a configuration (R125). -/
def Raster.restart (r : Raster) (c : Configuration) : Raster :=
  { r with
    format := c.format, line := 1, sample := 0, refState := .free, missCount := 0, startSeen := false, rate := .nominal,
    deadlineFlag := true, switchLine := c.switchLine, guardLines := c.guardLines, offsetLines := c.offsetLines,
    offsetSamples := c.offsetSamples, startedLines := [] }

end Sys2Proof.Machine
end

