-- ==== Sys2Proof/Machine/FieldPoint.lean ====
section
/-! DEFINITION. The switch point: what every block does when a field opens, in the order the spec gives (R1, R21, R46, R96, R104,
R108, R122, R135, R160, R167 to R169, R174, R177, R181; log entry 28). -/

namespace Sys2Proof.Machine

/-! ## Offering the due entries (R160) -/

/-- An entry offered to its owner (R160, R161). -/
def offer (e : Entry) (s : State) : Answer :=
  match e.action with
  | .select bus n => offerSelect e.sender bus n s
  | .take .cut => offerTakeCut s
  | .take .auto => offerTakeAuto s
  | .lever position => offerLever e.sender position s
  | .transet f => offerTranset f s
  | .nextsel n => offerNextsel n s
  | .keytake l m => offerKeytake l m s
  | .keyset l f => offerKeyset l f s
  | .restore i => offerRestore i s

/-- The spent entries whose turn, at the switch point with free-value count `c`, is at or before turn `j` expire (log entry 7). -/
def expireUpTo (c j : Nat) (s : State) : State :=
  expireWhere (fun e => decide (Config.expiryTurn c e.station.val ≤ j)) s

/-- The state after one offered entry, with the entries deferred so far (R160). -/
def settleAnswer (e : Entry) (deferred : List Entry) (s : State) : Answer → State × List Entry
  | .applied t => (t, deferred)
  | .deferred => (s, deferred ++ [e])
  | .refused reason detail => (refuse e.sender e.action.frameKind reason detail s, deferred)

/-- The entries of a list offered in order, the first of them at turn `j`: the state they leave and the deferred entries in order
(R160). -/
def offerAll (c : Nat) : Nat → List Entry → List Entry → State → State × List Entry
  | _, [], deferred, s => (s, deferred)
  | j, e :: rest, deferred, s =>
    let t := expireUpTo c j s
    let (u, d) := settleAnswer e deferred t (offer e t)
    offerAll c (j + 1) rest d u

/-- The due entries offered, and the queue they leave: the deferred entries, then the entries not yet due (R160). -/
def offerDue (c : Nat) (s : State) : State :=
  let field := s.raster.field
  let (t, deferred) := offerAll c 1 (s.intake.queue.filter fun e => decide (e.due ≤ field)) [] s
  t.setIntake { t.intake with queue := deferred ++ t.intake.queue.filter fun e => !decide (e.due ≤ field) }

/-! ## The parts of a switch point -/

/-- The field opened: the counters, the frame budget and the free-value count (R122, R135; log entry 7). -/
def openField (s : State) : State :=
  let r := s.raster.openField
  ((s.setRaster r).setPort (s.port.newBudget r.field)).setFreeCount (s.freeCount + 1)

/-- The advances of the Peer View's ages, the engine, the Key Layer Unit and the Monitor (R21, R46, R104, R167). -/
def advanceAll (s : State) : State := advanceMonitor (advanceKeys (advanceEngine (s.setPeers s.peers.grow)))

/-- The duplicate flag's quiet count at a switch point: at 24 it clears the flag (R168; log entry 18). -/
def PeerView.countQuiet (v : PeerView) : PeerView :=
  if v.duplicate then
    { v with quiet := v.quiet + 1, duplicate := decide (v.quiet + 1 < Config.quietLimit) }
  else v

/-- The work of a switch point that only a station in RUNNING does: the cycle test and its reversion, the due entries, and the
duplicate flag's quiet count (R96, R160, R168, R174). -/
def runField (c : Nat) (s : State) : State :=
  let t := offerDue c (breakCycle (expireUpTo c 0 s))
  t.setPeers t.peers.countQuiet

/-- The station enters RUNNING: STANDING is made pending and the lever owner worked out under FIXED (R163, R177, R181). -/
def enterRunning (s : State) : State :=
  reviseOwner (pendStanding (s.setLoader { s.loader with state := .running }))

/-- The listening count at a switch point in LISTENING: at 8 the station enters RUNNING (R181). -/
def countListening (s : State) : State :=
  let t := s.setLoader { s.loader with listeningCount := s.loader.listeningCount + 1 }
  if Config.listeningPeriod ≤ t.loader.listeningCount then enterRunning t else t

/-- What a field shows, derived once every change of the switch point has been made: effective sources, the source sets and the tally
(R13, R14, R93, R169). -/
def deriveField (s : State) : State :=
  let t := deriveSets (resolveSources s)
  t.setTally (tallyOf t)

/-- The announced values of the field kept for the next comparison (R177). -/
def noteAnnounced (s : State) : State := s.setPeers { s.peers with announced := announcedOf s }

/-- STANDING made pending when the repeat count reaches 8 (R177). -/
def repeatStanding (s : State) : State :=
  if Config.repeatPeriod ≤ s.peers.repeatCount then pendStanding s else s

/-- The comparison of R177: STANDING made pending when an announced value differs from the field before, and every 8th field
otherwise. -/
def announceField (s : State) : State :=
  if announcedOf s ≠ s.peers.announced then pendStanding s
  else repeatStanding (s.setPeers { s.peers with repeatCount := s.peers.repeatCount + 1 })

/-- The work of a switch point in LISTENING, RUNNING and BARRED, the field being open (log entry 28). -/
def workField (c : Nat) (s : State) : State :=
  let expireAll := expireWhere fun _ => true
  let t := advanceAll s
  match s.loader.state with
  | .loading => s
  | .running => noteAnnounced (announceField (deriveField (expireAll (runField c t))))
  | .listening => noteAnnounced (deriveField (countListening (expireAll t)))
  | .barred => noteAnnounced (deriveField (expireAll t))

/-- A switch point where the counters stand (R122). In LOADING the switch points since the release are counted (R180) and no block but
the generator and the port does anything (R44, R97, R111, R163, R164, R169). -/
def takeSwitchPoint (s : State) : State :=
  let t := openField s
  if t.loader.state = .loading then
    t.setLoader { t.loader with loadingSwitchPoints := t.loader.loadingSwitchPoints + 1 }
  else workField s.freeCount t

/-- A switch point is due where the counters stand: they stand on a switch line and the deadline flag is set (R122). -/
def State.switchPointDue (s : State) : Bool := s.raster.deadlineFlag && s.raster.switchLines.contains s.raster.line

/-- The switch point, if one is due where the counters stand (R122). A restart that sets the counters onto line 1 takes none there, so that
with switch line 1 it is the next count that takes it (R125; log entry 39). -/
def meetSwitchPoint (s : State) : State := if s.switchPointDue then takeSwitchPoint s else s

end Sys2Proof.Machine
end

