-- ==== Sys2Proof/Machine/Loader.lean ====
section
/-! DEFINITION. The Start-up Loader: the reset input and the end of LOADING (R10, R125, R179 to R184). -/

namespace Sys2Proof.Machine

/-- The state while the reset input is asserted: every block at its reset values (R179). The straps as last read, the command queue and
the free-value count stand. -/
def assertReset (s : State) : State :=
  { State.reset with
    loader := { Loader.reset with station := s.loader.station, final := s.loader.final, boot := s.loader.boot },
    freeCount := s.freeCount, pending := s.pending }

/-- The Monitor with a configured A, T, P and D (R99, R180); its buffers are emptied as the window is written (R100). -/
def Monitor.configure (m : Monitor) (c : Configuration) : Monitor :=
  { m with
    window := c.window, threshold := c.threshold, period := c.period,
    inputs := m.inputs.mapIdx fun i r => { r with buffer := [], leakDivider := c.dividers.getD i 0 } }

/-- The resolver with a configured map and programme source number (R82, R83). -/
def Crosspoint.configure (x : Crosspoint) (c : Configuration) : Crosspoint :=
  { x with programme := some c.programme, map := c.map }

/-- The intake with a configured permission table, lever policy and link group (R146). -/
def Intake.configure (t : Intake) (c : Configuration) : Intake :=
  { t with permissions := c.permissions, leverPolicy := c.leverPolicy, linkGroup := c.linkGroup }

/-- The engine with the initial transition settings; its remaining rate takes the rate (R10, R19). -/
def Engine.configure (e : Engine) (c : Configuration) : Engine :=
  { e with settings := c.transition, remaining := c.transition.rate }

/-- The layers with the initial key settings (R10, R45). -/
def KeyUnit.configure (k : KeyUnit) (c : Configuration) : KeyUnit :=
  { k with
    layer1 := { k.layer1 with settings := c.keys1 }, layer2 := { k.layer2 with settings := c.keys2 },
    layer3 := { k.layer3 with settings := c.keys3 }, layer4 := { k.layer4 with settings := c.keys4 } }

/-- Picture Arithmetic with the configured limits and matte colour (R62, R81). -/
def Picture.configure (p : Picture) (c : Configuration) : Picture := { p with limits := c.limits, matte := c.matte }

/-- The Loader at the end of LOADING (R180). -/
def Loader.finish (l : Loader) (isDefault : Bool) : Loader :=
  { l with state := .listening, listeningCount := 0, configDefault := isDefault }

/-- The end of LOADING with a configuration in force (R180); the raster restarts (R125), and its line 1 starts. -/
def applyConfiguration (c : Configuration) (isDefault : Bool) (s : State) : State :=
  beginLine
    ((((((((s.setLoader (s.loader.finish isDefault)).setRaster (s.raster.restart c)).setIntake
      (s.intake.configure c)).setCrosspoint (s.crosspoint.configure c)).setMonitor
      (s.monitor.configure c)).setEngine (s.engine.configure c)).setKeys (s.keys.configure c)).setPicture
      (s.picture.configure c))

/-- The end of LOADING with the default configuration (R180, R184). -/
def applyDefaults (s : State) : State := applyConfiguration (.default s.loader.station) true s

/-- The straps read at the release of reset, and LOADING begun (R179, R180). -/
def readStraps (station : Station) (final : Bool) (boot : BootSel) (s : State) : State :=
  s.setLoader { s.loader with
    inputAsserted := false, station := station, final := final, boot := boot, loadingSwitchPoints := 0 }

/-- The flash is unreadable: BOOTSEL is FLASH and the 16th switch point since the release has come with the station still in LOADING
(R180). -/
def Loader.unreadable (l : Loader) : Bool :=
  l.state == .loading && !l.inputAsserted && l.boot == .flash && decide (Config.flashLimit ≤ l.loadingSwitchPoints)

/-- LOADING ended with the default configuration if the flash is unreadable. The counters never move on from the 16th switch point with the
station still in LOADING: every event that moves them, and the clock, ends it first, and only an END_OF_LOADING at that same instant comes
before (R180; log entry 20). -/
def endUnreadable (s : State) : State := if s.loader.unreadable then applyDefaults s else s

end Sys2Proof.Machine
end

