-- ==== Sys2Proof/Machine/StartUp.lean ====
section
/-! DEFINITION. The meanings of the start-up commands: RESET_ASSERTED, RESET_RELEASED, END_OF_LOADING, FLASH_UNREADABLE and
ENTER_RUNNING (R179 to R184). -/

namespace Sys2Proof.Machine

/-- An event that acts on the part only while the reset input is released (R179; log entry 3). -/
def whenReleased (effect : State → State) (s : State) : Host.Outcome State Fault Refusal :=
  .next (if s.loader.inputAsserted then s else effect s)

/-- An event that moves the counters: one that finds the flash unreadable finds LOADING ended by it (R180; log entry 20). -/
def whenCounting (effect : State → State) (s : State) : Host.Outcome State Fault Refusal :=
  whenReleased (fun s => effect (endUnreadable s)) s

/-- RESET_ASSERTED: every block takes its reset values at once (R10, R179). -/
def execResetAsserted (s : State) : Host.Outcome State Fault Refusal := .next (assertReset s)

/-- RESET_RELEASED: the straps are read and LOADING begins; under DEFAULTS it ends at once with the default configuration (R179, R180;
log entry 19). An input that is not asserted is not released. -/
def execResetReleased (station : Station) (final : Bool) (boot : BootSel) (s : State) : Host.Outcome State Fault Refusal :=
  .next
    (if s.loader.inputAsserted then
      let t := readStraps station final boot s
      match boot with
      | .flash => t
      | .defaults => applyDefaults t
    else s)

/-- END_OF_LOADING: the read of the flash completes, and LOADING ends with the block if it is accepted and with the defaults if it is
rejected (R180, R182). Bytes that do not complete the read end nothing (log entry 21). -/
def execEndOfLoading (block : List Byte) (s : State) : Host.Outcome State Fault Refusal :=
  whenReleased (fun s =>
    match s.loader.state with
    | .loading =>
      match s.loader.boot with
      | .defaults => applyDefaults s
      | .flash =>
        match checkBlock block with
        | .incomplete => s
        | .rejected => applyDefaults s
        | .accepted content => applyConfiguration (readConfiguration s.loader.station content) false s
    | .listening => s
    | .running => s
    | .barred => s) s

/-- FLASH_UNREADABLE: the read has not completed by the 16th switch point, and LOADING ends with the defaults (R180; log entry 20). -/
def execFlashUnreadable (s : State) : Host.Outcome State Fault Refusal := whenReleased endUnreadable s

/-- ENTER_RUNNING: a station whose listening count has reached 8 enters RUNNING (R181; log entries 6 and 29). -/
def execEnterRunning (s : State) : Host.Outcome State Fault Refusal :=
  whenReleased (fun s =>
    if s.loader.state = .listening ∧ Config.listeningPeriod ≤ s.loader.listeningCount then
      noteAnnounced (deriveField (enterRunning s))
    else s) s

end Sys2Proof.Machine
end

