-- ==== Sys2Proof/Machine/CueLine.lean ====
section
/-! DEFINITION. The meanings of the Cue Line's own commands: LINE_IDLE, LINE_BUSY, the life of an attempt, and FRAME_DISCARDED (R128 to
R138). -/

namespace Sys2Proof.Machine

/-- LINE_IDLE: the line has been recessive for 11 bit times (R128). -/
def execLineIdle (s : State) : Host.Outcome State Fault Refusal := whenReleased (fun s => s.setPort s.port.lineIdle) s

/-- ATTEMPT_BEGINS: when every condition of R131 holds, STANDING or the oldest refusal begins. -/
def execAttemptBegins (s : State) : Host.Outcome State Fault Refusal :=
  whenReleased (fun s => if s.mayBegin then beginAttempt s else s) s

/-- ARBITRATION_LOSS: a recessive data bit of byte 0 is read dominant (R132). -/
def execArbitrationLoss (s : State) : Host.Outcome State Fault Refusal :=
  whenReleased (fun s => s.setPort s.port.loseArbitration) s

/-- ATTEMPT_PASSES_BYTE_0: the last data bit of byte 0 is passed (R135). -/
def execAttemptPassesByte0 (s : State) : Host.Outcome State Fault Refusal :=
  whenReleased (fun s => s.setPort s.port.passByte0) s

/-- TRANSMIT_ERROR: a bit is read back different from the bit sent (R133). -/
def execTransmitError (s : State) : Host.Outcome State Fault Refusal :=
  whenReleased (fun s => s.setPort s.port.transmitError) s

/-- FRAME_DROPPED: a frame whose transmit error count has reached 3 is dropped (R133; log entry 6). -/
def execFrameDropped (s : State) : Host.Outcome State Fault Refusal := whenReleased (fun s => s.setPort s.port.dropSpent) s

/-- ATTEMPT_COMPLETES: the last stop bit has been sent and every bit read back (R134). -/
def execAttemptCompletes (s : State) : Host.Outcome State Fault Refusal :=
  whenReleased (fun s => s.setPort s.port.completeAttempt) s

/-- FRAME_DISCARDED: an assembly ends without an arrival and leaves the port alone changed (R138, R139, R141). -/
def execFrameDiscarded (bytes : List Byte) (ending : AssemblyEnd) (s : State) : Host.Outcome State Fault Refusal :=
  whenReleased (fun s =>
    if isDiscarded bytes ending then s.setPort (s.port.discard ending) else s) s

/-- LINE_BUSY: the port reads a dominant level after IDLE (R128). -/
def execLineBusy (s : State) : Host.Outcome State Fault Refusal := whenReleased (fun s => s.setPort s.port.lineBusy) s

end Sys2Proof.Machine
end

