-- ==== Sys2Proof/Machine/FieldEvents.lean ====
section
/-! DEFINITION. The meanings of the commands that name a step inside a switch point: COMPLETION, KEY_MIX_ENDS, PRIMARY_TICK, LEAK_DUE,
PEER_EXPIRY, DUPLICATE_FLAG_CLEAR and STANDING_REPEAT. SWITCH_POINT takes these steps itself; each command takes its step where the
condition the spec gives it holds, KEY_MIX_ENDS the whole switch point it is part of (log entry 6). -/

namespace Sys2Proof.Machine

/-- A completion is due: an AUTO run has reached its remaining rate, or an engaged lever the far end (R22, R29, R39). -/
def Engine.completionDue (e : Engine) : Bool :=
  match e.state with
  | .idle => false
  | .auto => decide (e.remaining ≤ e.elapsed)
  | .lever =>
    e.engaged && (match e.latest with
      | none => false
      | some position => atFarEnd (derivedProgress e.sense position))

/-- COMPLETION: the transition completes (R29 to R31, R95), and the field's effective sources and sets are taken again (log entry 29). -/
def execCompletion (s : State) : Host.Outcome State Fault Refusal :=
  whenReleased (fun s => if s.engine.completionDue then deriveSets (resolveSources (complete s)) else s) s

/-- The next advance ends the own key mix of a layer: its count then reaches or has passed its key rate (R47). -/
def LayerRecord.mixDue (r : LayerRecord) : Bool := r.ownMix && decide (r.settings.rate ≤ r.elapsed + 1)

/-- KEY_MIX_ENDS: an own key mix ends at the advance of a switch point and at no other instant (R46, R47, R52), so the event is the switch
point that the counters stand at, taken whole, when the advance there ends the mix of this layer (log entry 6). -/
def execKeyMixEnds (layer : Layer) (s : State) : Host.Outcome State Fault Refusal :=
  whenReleased (fun s =>
    if s.switchPointDue ∧ s.loader.state ≠ .loading ∧ (s.keys.get layer).mixDue then takeSwitchPoint s else s) s

/-- PRIMARY_TICK: the primary leak counter has reached P, returns to 0, and each divider counter advances (R105). -/
def execPrimaryTick (s : State) : Host.Outcome State Fault Refusal := whenReleased (fun s => s.setMonitor s.monitor.tick) s

/-- LEAK_DUE: the divider of an input has counted D + 1 ticks; it returns to 0 and a count above 0 falls by one (R105, R106). -/
def execLeakDue (input : InputNo) (s : State) : Host.Outcome State Fault Refusal :=
  whenReleased (fun s => s.setMonitor (s.monitor.modify input InputRecord.leak)) s

/-- PEER_EXPIRY: the entry of a station whose age has reached 24 is removed (R156, R167). -/
def execPeerExpiry (station : Station) (s : State) : Host.Outcome State Fault Refusal :=
  whenReleased (expireWhere fun e => e.station == station) s

/-- DUPLICATE_FLAG_CLEAR: the quiet count has reached 24, and the flag is cleared (R168). -/
def execDuplicateFlagClear (s : State) : Host.Outcome State Fault Refusal :=
  whenReleased (fun s =>
    if Config.quietLimit ≤ s.peers.quiet then s.setPeers { s.peers with duplicate := false } else s) s

/-- STANDING_REPEAT: in RUNNING the repeat count has reached 8, and STANDING is made pending (R177). -/
def execStandingRepeat (s : State) : Host.Outcome State Fault Refusal :=
  whenReleased (fun s => if s.loader.state = .running then repeatStanding s else s) s

end Sys2Proof.Machine
end

