-- ==== Sys2Proof/Machine/Frames.lean ====
section
/-! DEFINITION. The meanings of the arrivals: the eight panel commands, DELEGATE, STANDING and REFUSAL (R139, R140, R147 to R166). -/

namespace Sys2Proof.Machine

/-- DELEGATE_ARRIVAL (R147, R165). -/
def execDelegateArrival (h : Header) (b0 : Byte) (s : State) : Host.Outcome State Fault Refusal :=
  .next (deliver h.sender (recordDelegate h.sender (delegationOf b0)) s)

/-- PICK_ARRIVAL (R148). -/
def execPickArrival (h : Header) (b0 b1 : Byte) (s : State) : Host.Outcome State Fault Refusal :=
  .next (receiveCommand h.sender h.target .pick (pickDetail b0) (pickAction b0 b1) s)

/-- LEVER_ARRIVAL (R148, R154, R155). -/
def execLeverArrival (h : Header) (b0 b1 : Byte) (s : State) : Host.Outcome State Fault Refusal :=
  .next (receiveCommand h.sender h.target .lever 0 (leverAction b0 b1) s)

/-- TAKE_ARRIVAL (R148, R150). -/
def execTakeArrival (h : Header) (b0 : Byte) (s : State) : Host.Outcome State Fault Refusal :=
  .next (receiveCommand h.sender h.target .take 0 (takeAction b0) s)

/-- KEYTAKE_ARRIVAL (R148). -/
def execKeytakeArrival (h : Header) (b0 b1 : Byte) (s : State) : Host.Outcome State Fault Refusal :=
  .next (receiveCommand h.sender h.target .keytake (layerDetail b0) (keytakeAction b0 b1) s)

/-- NEXTSEL_ARRIVAL (R148). -/
def execNextselArrival (h : Header) (b0 : Byte) (s : State) : Host.Outcome State Fault Refusal :=
  .next (receiveCommand h.sender h.target .nextsel 0 (nextselAction b0) s)

/-- TRANSET_ARRIVAL (R145, R148); a payload of a length R139 does not allow is not delivered (log entry 30). -/
def execTransetArrival (h : Header) (payload : List Byte) (s : State) : Host.Outcome State Fault Refusal :=
  .next
    (if lengthAllowed (kindCode .transet) payload.length then
      receiveCommand h.sender h.target .transet 0 (transetAction payload) s
    else s)

/-- KEYSET_ARRIVAL (R145, R148); a payload of a length R139 does not allow is not delivered (log entry 30). -/
def execKeysetArrival (h : Header) (payload : List Byte) (s : State) : Host.Outcome State Fault Refusal :=
  .next
    (if lengthAllowed (kindCode .keyset) payload.length then
      receiveCommand h.sender h.target .keyset (layerDetail (payload.getD 0 0)) (keysetAction payload) s
    else s)

/-- RESTORE_ARRIVAL (R148). -/
def execRestoreArrival (h : Header) (b0 : Byte) (s : State) : Host.Outcome State Fault Refusal :=
  .next (receiveCommand h.sender h.target .restore (inputDetail b0) (restoreAction b0) s)

/-- STANDING_ARRIVAL (R165); a payload of a length R139 does not allow is not delivered (log entry 30). -/
def execStandingArrival (h : Header) (payload : List Byte) (s : State) : Host.Outcome State Fault Refusal :=
  .next
    (if lengthAllowed (kindCode .standing) payload.length then
      deliver h.sender (recordStanding h.sender (mixFieldsOf payload)) s
    else s)

/-- REFUSAL_ARRIVAL (R144, R165): nothing is read from its payload. -/
def execRefusalArrival (h : Header) (_b0 _b1 _b2 : Byte) (s : State) : Host.Outcome State Fault Refusal :=
  .next (deliver h.sender (recordHeard h.sender) s)

end Sys2Proof.Machine
end

