-- ==== Sys2Proof/Machine/InputEvents.lean ====
section
/-! DEFINITION. The meanings of the input commands: INPUT_LINE_ARRIVAL and ABSENCE (R100, R103). -/

namespace Sys2Proof.Machine

/-- INPUT_LINE_ARRIVAL: a line of an input completes arrival (R100, R103; log entries 8, 9 and 10). -/
def execInputLineArrival (input : InputNo) (line : VideoLine) (s : State) : Host.Outcome State Fault Refusal :=
  whenReleased (fun s => s.setMonitor (s.monitor.modify input fun r => r.arrive s.raster s.monitor.window line)) s

/-- ABSENCE: the receiver of an input is not locked to a stream of the configured format (R103). The command marks the field in progress
alone: an absence that lasts over a switch point is queued again in each field it lasts in, since the spec gives the Monitor no record of
the receiver's lock (DESIGN CHOICE, log entry 37). The lines the alignment buffer already holds stay in it, and an output line that
starts during the absence reads such a line as R101 says, shows it and records no substitution for it, although R2 and R103 speak of
default fill on each active output line of the absence (DESIGN CHOICE, log entry 43). -/
def execAbsence (input : InputNo) (s : State) : Host.Outcome State Fault Refusal :=
  whenReleased (fun s => s.setMonitor (s.monitor.modify input fun r => { r with absenceSeen := true })) s

end Sys2Proof.Machine
end

