-- ==== Sys2Proof/Machine/Reference.lean ====
section
/-! DEFINITION. A reference field start taken, and the reload it may make (R102, R116 to R120, R124). -/

namespace Sys2Proof.Machine

/-- A reload on a start of field `fi` with deviation `dev` (R102, R115, R116, R124; log entry 11). At deviation 0 the counters do not move,
and no line starts. Otherwise the line they come to stand on starts, when it is another line or its start, and a switch point due there is
taken. -/
def reload (fi : FieldId) (dev : Int) (s : State) : State :=
  let r := s.raster.reload fi dev
  let t := s.setRaster r
  if dev = 0 then t
  else meetSwitchPoint (if r.line = s.raster.line ∧ r.sample ≠ 0 then t else beginLine t)

/-- A reference field start of field `fi`, taken (R117 to R120). -/
def takeReferenceStart (fi : FieldId) (s : State) : State :=
  let r := s.raster
  let dev := r.deviation fi
  let taken := { r with missCount := 0, startSeen := true }
  match r.refState with
  | .free => s.setRaster { taken with refState := .realign }
  | .realign =>
    reload fi dev (s.setRaster { taken with refState := .locked, rate := .disciplined (r.countsToNextStart fi 0) })
  | .locked =>
    if isMatching r.format dev then s.setRaster { taken with rate := .disciplined (r.countsToNextStart fi dev) }
    else reload fi dev (s.setRaster { taken with rate := .disciplined (r.countsToNextStart fi 0) })

end Sys2Proof.Machine
end

