-- ==== Sys2Proof/Machine/RasterEvents.lean ====
section
/-! DEFINITION. The meanings of the raster and reference commands: LINE_START, SWITCH_POINT, CUE_DEADLINE, REFERENCE_FIELD_START,
MISS_CHECK and LEAVE_LOCK (R113 to R126). -/

namespace Sys2Proof.Machine

/-- LINE_START: the sample counter returns to 0 and the next line starts (R101, R114, R115). -/
def execLineStart (s : State) : Host.Outcome State Fault Refusal := whenCounting startLine s

/-- SWITCH_POINT: the counters reach a switch line while the deadline flag is set (R122; log entry 5). -/
def execSwitchPoint (s : State) : Host.Outcome State Fault Refusal :=
  whenCounting (fun s =>
    if s.raster.deadlineFlag then takeSwitchPoint (moveCounters (s.raster.runTo s.raster.switchLines) s) else s) s

/-- CUE_DEADLINE: the counters reach a deadline line while the deadline flag is clear (R123; log entry 5). -/
def execCueDeadline (s : State) : Host.Outcome State Fault Refusal :=
  whenCounting (fun s =>
    if s.raster.deadlineFlag then s else moveCounters (s.raster.runTo s.raster.deadlineLines).takeDeadline s) s

/-- REFERENCE_FIELD_START: taken when it arrives on a reference of the configured format (R116 to R120; log entry 33). -/
def execReferenceFieldStart (format : Format) (field : FieldId) (s : State) : Host.Outcome State Fault Refusal :=
  whenCounting (fun s =>
    if format = s.raster.format ∧ field ∈ fieldsOf format then takeReferenceStart field s else s) s

/-- MISS_CHECK: the counters reach a check point in REALIGN or LOCKED (R121; log entry 5). -/
def execMissCheck (s : State) : Host.Outcome State Fault Refusal :=
  whenCounting (fun s => if s.raster.refState = .free then s else moveCounters s.raster.runToMissCheck.checkMiss s) s

/-- LEAVE_LOCK: the miss count has reached 3, and the state becomes FREE (R121; log entry 6). -/
def execLeaveLock (s : State) : Host.Outcome State Fault Refusal :=
  whenReleased (fun s => s.setRaster s.raster.leaveLock) s

end Sys2Proof.Machine
end

