-- ==== Sys2Proof/Machine/Dispatch.lean ====
section
/-! DEFINITION. The meaning of each command: one arm per constructor of Instr. -/

namespace Sys2Proof.Machine

/-- The effect of a command on everything but the queue of waiting commands. -/
def exec (i : Instr) (s : State) : Host.Outcome State Fault Refusal :=
  match i with
  | .resetAsserted => Sys2Proof.Machine.execResetAsserted s
  | .resetReleased station final boot => Sys2Proof.Machine.execResetReleased station final boot s
  | .endOfLoading block => Sys2Proof.Machine.execEndOfLoading block s
  | .flashUnreadable => Sys2Proof.Machine.execFlashUnreadable s
  | .enterRunning => Sys2Proof.Machine.execEnterRunning s
  | .lineStart => Sys2Proof.Machine.execLineStart s
  | .inputLineArrival input line => Sys2Proof.Machine.execInputLineArrival input line s
  | .absence input => Sys2Proof.Machine.execAbsence input s
  | .switchPoint => Sys2Proof.Machine.execSwitchPoint s
  | .cueDeadline => Sys2Proof.Machine.execCueDeadline s
  | .referenceFieldStart format field => Sys2Proof.Machine.execReferenceFieldStart format field s
  | .missCheck => Sys2Proof.Machine.execMissCheck s
  | .leaveLock => Sys2Proof.Machine.execLeaveLock s
  | .completion => Sys2Proof.Machine.execCompletion s
  | .keyMixEnds layer => Sys2Proof.Machine.execKeyMixEnds layer s
  | .primaryTick => Sys2Proof.Machine.execPrimaryTick s
  | .leakDue input => Sys2Proof.Machine.execLeakDue input s
  | .peerExpiry station => Sys2Proof.Machine.execPeerExpiry station s
  | .duplicateFlagClear => Sys2Proof.Machine.execDuplicateFlagClear s
  | .standingRepeat => Sys2Proof.Machine.execStandingRepeat s
  | .lineIdle => Sys2Proof.Machine.execLineIdle s
  | .attemptBegins => Sys2Proof.Machine.execAttemptBegins s
  | .arbitrationLoss => Sys2Proof.Machine.execArbitrationLoss s
  | .attemptPassesByte0 => Sys2Proof.Machine.execAttemptPassesByte0 s
  | .transmitError => Sys2Proof.Machine.execTransmitError s
  | .frameDropped => Sys2Proof.Machine.execFrameDropped s
  | .attemptCompletes => Sys2Proof.Machine.execAttemptCompletes s
  | .frameDiscarded bytes ending => Sys2Proof.Machine.execFrameDiscarded bytes ending s
  | .delegateArrival h b0 => Sys2Proof.Machine.execDelegateArrival h b0 s
  | .pickArrival h b0 b1 => Sys2Proof.Machine.execPickArrival h b0 b1 s
  | .leverArrival h b0 b1 => Sys2Proof.Machine.execLeverArrival h b0 b1 s
  | .takeArrival h b0 => Sys2Proof.Machine.execTakeArrival h b0 s
  | .keytakeArrival h b0 b1 => Sys2Proof.Machine.execKeytakeArrival h b0 b1 s
  | .nextselArrival h b0 => Sys2Proof.Machine.execNextselArrival h b0 s
  | .transetArrival h payload => Sys2Proof.Machine.execTransetArrival h payload s
  | .keysetArrival h payload => Sys2Proof.Machine.execKeysetArrival h payload s
  | .restoreArrival h b0 => Sys2Proof.Machine.execRestoreArrival h b0 s
  | .standingArrival h payload => Sys2Proof.Machine.execStandingArrival h payload s
  | .refusalArrival h b0 b1 b2 => Sys2Proof.Machine.execRefusalArrival h b0 b1 b2 s
  | .lineBusy => Sys2Proof.Machine.execLineBusy s

end Sys2Proof.Machine
end

