-- ==== Sys2Proof/Machine/Tick.lean ====
section
/-! DEFINITION. One sample period with no command waiting: the counters advance, and the events that the part's own clock makes come
about (R114, R121 to R123, R131, R180; log entry 2). -/

namespace Sys2Proof.Machine

/-- The sample counter advances by one; from its last count the next line starts (R114). -/
def advanceSample (s : State) : State :=
  if s.raster.sample + 1 < lineSamples s.raster.format then s.setRaster { s.raster with sample := s.raster.sample + 1 }
  else startLine s

/-- A cue deadline, if the counters stand on a deadline line while the deadline flag is clear (R123). -/
def meetDeadline (s : State) : State :=
  if s.raster.deadlineFlag = false ∧ s.raster.line ∈ s.raster.deadlineLines then s.setRaster s.raster.takeDeadline else s

/-- A miss check, if the counters stand at a check point in REALIGN or LOCKED (R121). -/
def meetMissCheck (s : State) : State :=
  if s.raster.refState ≠ .free ∧ s.raster.line ∈ s.raster.missCheckLines ∧ s.raster.sample = s.raster.offsetSamples then
    s.setRaster s.raster.checkMiss
  else s

/-- An attempt begins, if every condition of R131 holds. -/
def meetAttempt (s : State) : State := if s.mayBegin then beginAttempt s else s

/-- One sample period of the raster, LOADING ended before it when the flash is unreadable (R114, R180). Where a deadline, a switch point
and a miss check fall on one sample, they come in this order, so that a change to FREE at the check is reported from the field after the one
that the switch point opens (DESIGN CHOICE, log entry 38: R121 to R123 give no order). -/
def runClock (s : State) : State := meetMissCheck (meetSwitchPoint (meetDeadline (advanceSample (endUnreadable s))))

/-- One sample period; while the reset input is asserted nothing moves (R179). -/
def tick (s : State) : State := if s.loader.inputAsserted then s else meetAttempt (runClock s)

end Sys2Proof.Machine
end

