-- ==== Sys2Proof/Safety.lean ====
section
/-! DEFINITION. What a sound state of the part is, block by block: the standing properties the spec states of what each block holds. -/

namespace Sys2Proof.Safety

open Sys2Proof.Machine

/-! ## Where a command acts -/

/-- The reset input is released. -/
def Released (s : State) : Prop := s.loader.inputAsserted = false

/-- The counters move at an event: the reset input is released, and the station does not stand in LOADING with its flash unreadable. -/
def Counting (s : State) : Prop := Released s ∧ s.loader.unreadable = false

/-- The reset input is released and the station is in RUNNING. -/
def Running (s : State) : Prop := Released s ∧ s.loader.state = .running

/-- The port assembles frames: the reset input is released and it does not wait for IDLE (R138, R141). -/
def Receiving (s : State) : Prop := Released s ∧ s.port.rx ≠ .waitIdle

/-- A frame from another station reaches the Peer View: the port assembles it, the station is out of LOADING and the sender is not its own
number (R140, R168). -/
def Heard (s : State) (sender : Station) : Prop :=
  Receiving s ∧ s.loader.state ≠ .loading ∧ sender ≠ s.loader.station

/-- A panel command is judged as one for this station: it is heard in RUNNING and targeted here (R148). -/
def Addressed (s : State) (h : Header) : Prop :=
  Receiving s ∧ s.loader.state = .running ∧ h.sender ≠ s.loader.station ∧ h.target = s.loader.station

/-! ## Arrivals and panel commands -/

/-- The receiving side after an arrival: ready for the next frame, the line BUSY (R128). -/
def arrivedState (s : State) : State := s.setPort { s.port with lineState := .busy, rx := .ready }

/-- The arrivals that carry a frame from a sender, whatever the kind. -/
def arrivalsFrom (h : Header) (b0 b1 b2 : Byte) (p7 p8 p12 : List Byte) : List Instr :=
  [.delegateArrival h b0, .pickArrival h b0 b1, .leverArrival h b0 b1, .takeArrival h b0, .keytakeArrival h b0 b1,
   .nextselArrival h b0, .transetArrival h p7, .keysetArrival h p8, .restoreArrival h b0, .standingArrival h p12,
   .refusalArrival h b0 b1 b2]

/-- The state in which an addressed command is judged: the frame has arrived and its sender's entry is refreshed (R140). -/
def heardState (s : State) (p : Station) : State := (arrivedState s).setPeers (s.peers.refresh p)

/-- The eight panel commands, each with the action its values stand for (none when R151 refuses them), its frame kind and the detail of a
refusal (R142, R145, R151, R152, R162). -/
def panelCommands (h : Header) (b0 b1 : Byte) (p7 p8 : List Byte) : List (Instr × Option Action × FrameKind × Byte) :=
  [(.pickArrival h b0 b1, pickAction b0 b1, .pick, if b0.toNat ≤ 9 then b0 else 0),
   (.leverArrival h b0 b1, leverAction b0 b1, .lever, 0),
   (.takeArrival h b0, takeAction b0, .take, 0),
   (.keytakeArrival h b0 b1, keytakeAction b0 b1, .keytake, if 1 ≤ b0.toNat ∧ b0.toNat ≤ 4 then b0 else 0),
   (.nextselArrival h b0, nextselAction b0, .nextsel, 0),
   (.transetArrival h p7, transetAction p7, .transet, 0),
   (.keysetArrival h p8, keysetAction p8, .keyset, if 1 ≤ (p8.getD 0 0).toNat ∧ (p8.getD 0 0).toNat ≤ 4 then p8.getD 0 0 else 0),
   (.restoreArrival h b0, restoreAction b0, .restore, if b0.toNat ≤ 11 then b0 else 0)]

/-! ## The fields of TRANSET and KEYSET -/

/-- Where field `i` begins after a presence mask: the sizes of the present fields before it, added (R145). -/
def fieldOffset (sizes : List Nat) (mask i : Nat) : Nat :=
  ((List.range i).map fun j => if mask.testBit j then sizes.getD j 0 else 0).sum

/-- The value of field `i`, most significant byte first; none when its mask bit is clear (R145). -/
def fieldValue (sizes : List Nat) (mask : Nat) (body : List Byte) (i : Nat) : Option Nat :=
  let k := fieldOffset sizes mask i
  if mask.testBit i then
    some (if sizes.getD i 0 = 1 then (body.getD k 0).toNat else (body.getD k 0).toNat * 256 + (body.getD (k + 1) 0).toNat)
  else none

/-! ## Reaching a source through the stations that show it -/

/-- The sources reached from a set: its members, and, of every station whose programme number is reached, the members of the set it is
paired with (R90, R171, R172, R174). -/
inductive Reaches (stations : Source → SourceSet → Prop) (start : SourceSet) : Source → Prop where
  | member {n : Source} : setHas start n = true → Reaches stations start n
  | through {p n : Source} {x : SourceSet} : Reaches stations start p → stations p x → setHas x n = true → Reaches stations start n

/-- A node of the tally: this station, or a live MIX entry, with its FINAL flag, programme number and sets (R169). -/
def TallyStation (s : State) (n : TallyNode) : Prop :=
  n = { final := s.loader.final, programme := s.crosspoint.programme, contribution := s.sets.contribution, next := s.sets.next } ∨
  ∃ e m, e ∈ s.peers.entries ∧ e.kind = .mix m ∧
    n = { final := m.final, programme := some m.programme, contribution := m.contribution, next := m.next }

/-- A tally node's programme number with its contribution set: what the closures of R171 and R172 follow. -/
def Shows (s : State) (p : Source) (x : SourceSet) : Prop := ∃ n, TallyStation s n ∧ n.programme = some p ∧ n.contribution = x

/-- A live MIX entry's programme number with both its sets together: what the search of R90 follows. -/
def PeerShows (s : State) (p : Source) (x : SourceSet) : Prop :=
  ∃ e m, e ∈ s.peers.entries ∧ e.kind = .mix m ∧ p = m.programme ∧ x = m.contribution ||| m.next

/-- A lower-numbered live MIX entry's programme number with both its sets together: the peers of the reduced graph (R174). -/
def LowerShows (s : State) (p : Source) (x : SourceSet) : Prop :=
  ∃ e m, e ∈ s.peers.entries ∧ e.kind = .mix m ∧ e.station < s.loader.station ∧ p = m.programme ∧ x = m.contribution ||| m.next

/-! ## The end of LOADING -/

/-- What the default configuration puts in force (R184), as the end of LOADING leaves it. -/
def DefaultsInForce (station : Station) (t : State) : Prop :=
  t.loader.state = .listening ∧ t.loader.listeningCount = 0 ∧ t.loader.configDefault = true ∧
  (∃ p, t.crosspoint.programme = some p ∧ p.val = 48 + station.val) ∧
  (∀ n i, n.val = i.val + 2 → t.crosspoint.entry n = some { input := i, backup := none, failover := false }) ∧
  (∀ n, 14 ≤ n.val → t.crosspoint.entry n = none) ∧
  (t.raster.format = .A ∧ t.raster.line = 1 ∧ t.raster.sample = 0 ∧ t.raster.refState = .free ∧ t.raster.missCount = 0 ∧
    t.raster.deadlineFlag = true ∧ t.raster.switchLine = 7 ∧ t.raster.guardLines = 20 ∧ t.raster.offsetLines = 0 ∧
    t.raster.offsetSamples = 0) ∧
  (t.intake.permissions = List.replicate 16 .full ∧ t.intake.leverPolicy = .fixed ∧ t.intake.linkGroup = 0) ∧
  (t.monitor.window = 2 ∧ t.monitor.threshold = 8 ∧ t.monitor.period = 50 ∧ ∀ r ∈ t.monitor.inputs, r.leakDivider = 0) ∧
  (t.picture.limits = { yLo := 64, yHi := 940, cLo := 64, cHi := 960 } ∧
    t.picture.matte = { y := 502#10, cb := 512#10, cr := 512#10 }) ∧
  (t.engine.settings = TransSettings.reset ∧ ∀ l, (t.keys.get l).settings = KeySettings.reset)

/-- What the end of LOADING leaves as it stands: the port, the Peer View, the sets, the tally, the lever owner, the queue, the buses, the
stack order, and of each layer everything but its settings. -/
def LoadingKept (s t : State) : Prop :=
  t.port = s.port ∧ t.peers = s.peers ∧ t.sets = s.sets ∧ t.tally = s.tally ∧ t.pending = s.pending ∧
  t.intake.leverOwner = s.intake.leverOwner ∧ t.intake.queue = s.intake.queue ∧ t.crosspoint.buses = s.crosspoint.buses ∧
  t.keys.stack = s.keys.stack ∧
  (∀ l, (t.keys.get l).state = (s.keys.get l).state ∧ (t.keys.get l).level = (s.keys.get l).level) ∧
  (t.engine.state = s.engine.state ∧ t.engine.progress = s.engine.progress ∧ t.engine.direction = s.engine.direction ∧
    t.engine.selection = s.engine.selection)

/-! ## Sound states -/

/-- While the reset input is asserted the station state is LOADING (R179), and a station in LISTENING has not yet counted its 8 switch
points (R181). -/
def LoaderSound (s : State) : Prop :=
  (s.loader.inputAsserted = true → s.loader.state = .loading) ∧
  (s.loader.state = .listening → s.loader.listeningCount < 8)

/-- The counters stand on a line and a sample of the format, and the configured places are in their ranges (R113, R114, R116, R122,
R123). -/
def CountersSound (s : State) : Prop :=
  (1 ≤ s.raster.line ∧ s.raster.line ≤ frameLines s.raster.format) ∧
  s.raster.sample < lineSamples s.raster.format ∧
  (1 ≤ s.raster.switchLine ∧ s.raster.switchLine ≤ 20) ∧
  (1 ≤ s.raster.guardLines ∧ s.raster.guardLines ≤ 64) ∧
  s.raster.offsetLines ≤ 63 ∧
  s.raster.offsetSamples < lineSamples s.raster.format

/-- The miss count stays below 3 and is 0 in FREE, and only LOCKED disciplines the rate (R117, R121). -/
def ReferenceSound (s : State) : Prop :=
  s.raster.missCount < 3 ∧
  (s.raster.refState = .free → s.raster.missCount = 0) ∧
  (s.raster.rate = .nominal ↔ s.raster.refState ≠ .locked)

/-- The port holds no more than its slots allow, sends only what is pending, keeps to its budget, and outside RUNNING holds and sends
nothing (R130, R131, R135, R136). -/
def PortSound (s : State) : Prop :=
  s.port.budgetCount ≤ 4 ∧
  s.port.refusals.length ≤ 4 ∧
  s.port.standingErrors ≤ 2 ∧
  (∀ r ∈ s.port.refusals, r.errors ≤ 2) ∧
  (∀ a, s.port.attempt = some a →
    (a.slot = .standing → s.port.standingPending = true) ∧
    (a.slot = .refusal → s.port.refusals ≠ []) ∧
    (a.passedByte0 = false → a.field = s.port.budgetField → s.port.budgetCount < 4)) ∧
  (s.loader.state ≠ .running →
    s.port.standingPending = false ∧ s.port.refusals = [] ∧ s.port.attempt = none)

/-- On an IDLE line the port is ready for a start bit: while it assembles a frame, or waits for IDLE, the line is BUSY (R128, R138, R141). -/
def LineSound (s : State) : Prop := s.port.lineState = .idle → s.port.rx = .ready

/-- The Field Action Queue holds at most 16 entries and never two with one coalescing key (R158), and is empty outside RUNNING (R163). -/
def QueueSound (s : State) : Prop :=
  s.intake.queue.length ≤ 16 ∧
  (s.intake.queue.filterMap fun e => e.action.key).Nodup ∧
  (s.loader.state ≠ .running → s.intake.queue = [])

/-- The Peer View holds at most one entry per station, never one for this station's own number, none of age 24, and none while the
reset input is asserted (R164, R167). -/
def PeersSound (s : State) : Prop :=
  s.peers.entries.Pairwise (fun a b => a.station < b.station) ∧
  (∀ e ∈ s.peers.entries, e.station ≠ s.loader.station ∧ e.age < 24) ∧
  (s.loader.inputAsserted = true → s.peers.entries = [])

/-- A lever owner is a live panel delegated here with FULL permission; under FIXED it is the lowest-numbered such panel; outside RUNNING
there is none (R154, R156, R163). -/
def OwnerSound (s : State) : Prop :=
  (∀ p, s.intake.leverOwner = some p → s.mayOwn p = true) ∧
  (s.loader.state = .running → s.intake.leverPolicy = .fixed → s.intake.leverOwner = s.lowestOwner) ∧
  (s.loader.state ≠ .running → s.intake.leverOwner = none)

/-- The four layers stand once each in the stack order (R9, R53). -/
def StackSound (s : State) : Prop := s.keys.stack.Perm [.l1, .l2, .l3, .l4]

/-- The key rates that the layers hold, and that waiting KEYSET entries carry, lie in 1..999 (R7, R152). -/
def RatesSound (s : State) : Prop :=
  (∀ l, 1 ≤ (s.keys.get l).settings.rate ∧ (s.keys.get l).settings.rate ≤ 999) ∧
  (∀ e ∈ s.intake.queue, ∀ l f r, e.action = .keyset l f → f.rate = some r → 1 ≤ r ∧ r ≤ 999)

/-- A layer's elapsed count and level agree with its state and its moving flag (R45, R48), the engine standing at `p` when `moves`. -/
def LayerRecord.Sound (moves : Bool) (p : Nat) (r : LayerRecord) : Prop :=
  match r.state with
  | .off => r.moving = false ∧ r.elapsed = 0 ∧ r.level = 0
  | .on => r.moving = false ∧ r.elapsed = 0 ∧ r.level = 1024
  | .rising =>
    if r.moving then moves = true ∧ r.elapsed = 0 ∧ r.level = p
    else 1 ≤ r.elapsed ∧ 1 ≤ r.level ∧ r.level ≤ 1023
  | .falling =>
    if r.moving then moves = true ∧ r.elapsed = 0 ∧ r.level = 1024 - p
    else 1 ≤ r.elapsed ∧ 1 ≤ r.level ∧ r.level ≤ 1023

/-- The engine's progress and counts agree with its state (R19, R20, R22, R40). -/
def Engine.Sound (e : Engine) : Prop :=
  match e.state with
  | .idle => e.progress = 0 ∧ e.startProgress = 0 ∧ e.elapsed = 0 ∧ e.remaining = e.settings.rate
  | .auto =>
    e.startProgress ≤ 1007 ∧ 1 ≤ e.elapsed ∧ e.elapsed < e.remaining ∧ e.engaged = false ∧
    e.progress = autoProgress e.startProgress e.elapsed e.remaining
  | .lever => 17 ≤ e.progress ∧ e.progress ≤ 1007

/-- The engine and the layers are sound together, the selection is not empty in AUTO or LEVER, and outside RUNNING the engine is IDLE with
no lever position and every layer is OFF (R20, R26, R44, R45, R48, R61). -/
def TransitionSound (s : State) : Prop :=
  Engine.Sound s.engine ∧
  (s.engine.state ≠ .idle → s.engine.selection.isEmpty = false) ∧
  (∀ l, LayerRecord.Sound (s.engine.state != .idle) s.engine.progress (s.keys.get l)) ∧
  (s.loader.state ≠ .running →
    s.engine.state = .idle ∧ s.engine.latest = none ∧ ∀ l, (s.keys.get l).state = .off)

/-- A source a bus may hold: BLACK, MATTE or a mapped source, and not the own programme number (R87, R89). -/
def sourceSound (s : State) (n : Source) : Prop := s.crosspoint.canShow n = true ∧ s.crosspoint.programme ≠ some n

/-- Every selection is one this station can show; every effective source is the resolution of its selection; the map names each input
once and no backup that R85 forbids; in LOADING every record is as at reset (R82, R84, R85, R87, R93, R97). -/
def SourcesSound (s : State) : Prop :=
  (∀ b, sourceSound s (s.crosspoint.buses.get b).selected ∧ sourceSound s (s.crosspoint.buses.get b).previous) ∧
  (∀ b, (s.crosspoint.buses.get b).effective =
    resolveSource s.crosspoint s.monitor (s.crosspoint.buses.get b).selected) ∧
  (∀ p, s.crosspoint.programme = some p → 2 ≤ p.val) ∧
  (∀ n e b, s.crosspoint.entry n = some e → e.backup = some b → sourceSound s b ∧ b ≠ n) ∧
  (s.loader.state = .loading → s.crosspoint.buses = Buses.reset)

/-- The source sets are those of the composition as it stands (R13, R14). -/
def SetsSound (s : State) : Prop :=
  s.sets.contribution = contributionSet s.engine s.keys s.crosspoint.buses ∧
  s.sets.next = nextContributionSet s.engine s.keys s.crosspoint.buses

/-- One input's record is in its ranges and its health state is that of its count and eligibility, or FAILED while eligible (R99, R100,
R105, R107). -/
def InputRecord.Sound (window threshold : Nat) (eligible : Bool) (r : InputRecord) : Prop :=
  r.buffer.length ≤ window ∧ r.count ≤ 255 ∧ r.divider ≤ r.leakDivider ∧
  (r.health = .failed ∧ eligible = true ∨ r.health = healthAfter threshold eligible .clean r.count)

/-- The Monitor's counters are in their ranges, every input is sound, and in LOADING nothing has been counted (R99, R105, R111). -/
def MonitorSound (s : State) : Prop :=
  s.monitor.inputs.length = 12 ∧ 1 ≤ s.monitor.window ∧ 1 ≤ s.monitor.threshold ∧
  (if s.monitor.period = 0 then s.monitor.primary = 0 else s.monitor.primary < s.monitor.period) ∧
  (∀ i, InputRecord.Sound s.monitor.window s.monitor.threshold (s.crosspoint.eligible i) (s.monitor.get i)) ∧
  (s.loader.state = .loading →
    s.monitor.primary = 0 ∧ ∀ r ∈ s.monitor.inputs, r.count = 0 ∧ r.divider = 0 ∧ r.health = .clean)

/-- The limits are in order and in the range of a sample, and every sample of a line on either output lies within them (R68, R81, R113). -/
def PictureSound (s : State) : Prop :=
  (s.picture.limits.yLo ≤ s.picture.limits.yHi ∧ s.picture.limits.yHi ≤ 1019) ∧
  (s.picture.limits.cLo ≤ s.picture.limits.cHi ∧ s.picture.limits.cHi ≤ 1019) ∧
  ∀ o ∈ [s.picture.pgm, s.picture.pvw], ∀ n, n < lineSamples s.raster.format →
    let v := o.sampleAt s.raster.format n
    (s.picture.limits.yLo ≤ v.y.toNat ∧ v.y.toNat ≤ s.picture.limits.yHi) ∧
    (s.picture.limits.cLo ≤ v.cb.toNat ∧ v.cb.toNat ≤ s.picture.limits.cHi) ∧
    (s.picture.limits.cLo ≤ v.cr.toNat ∧ v.cr.toNat ≤ s.picture.limits.cHi)

/-- The ON-AIR and PREVIEW sets share no source, there are twelve tally lines, and all of them are DARK outside RUNNING (R172, R173). -/
def TallySound (s : State) : Prop :=
  s.tally.onAir &&& s.tally.preview = 0#64 ∧ s.tally.lines.length = 12 ∧
  (s.loader.state ≠ .running → ∀ t ∈ s.tally.lines, t = .dark)

/-- The counts of the Peer View that repeat and quieten stay below their limits, and are at rest before RUNNING (R168, R177). -/
def CountsSound (s : State) : Prop :=
  s.peers.repeatCount < 8 ∧ s.peers.quiet ≤ 24 ∧ (s.peers.duplicate = true → s.peers.quiet < 24) ∧
  (s.loader.state ≠ .running → s.peers.repeatCount = 0 ∧ s.peers.duplicate = false)

/-- A property that every step keeps: if it holds of a state and a step gives a next state, it holds of that state. -/
def KeptByStep (inv : State → Prop) : Prop := ∀ s t, inv s → step s = .next t → inv t

end Sys2Proof.Safety
end

