-- ==== Sys2Proof/Certificates/Slice0/Obligations.lean ====
section
/-! DEFINITION. The statements for the provers. -/

open Sys2Proof Sys2Proof.Machine Sys2Proof.Safety

/-! ## The queue of commands and the clock -/

/-- A step takes the command at the front of the queue and runs it with the rest of the queue. -/
def Obligations.StepTakesFrontCommand : Prop :=
  ∀ (s : State) (c : Instr) (rest : List Instr), s.pending = c :: rest → step s = exec c (s.setPending rest)

/-- With no command waiting, the sample counter advances by one count where no line starts and no event of the clock is due (R114;
that an idle step is one sample period is the model's choice, log entry 2). -/
def Obligations.IdleStepCountsOneSample : Prop :=
  ∀ s : State, s.pending = [] → Released s → s.loader.unreadable = false →
    s.raster.sample + 1 < lineSamples s.raster.format →
    s.raster.line ∉ s.raster.deadlineLines → s.raster.line ∉ s.raster.switchLines →
    s.raster.line ∉ s.raster.missCheckLines → s.mayBegin = false →
    step s = .next (s.setRaster { s.raster with sample := s.raster.sample + 1 })

/-! ## Start-up -/

/-- RESET_ASSERTED gives every block the values its chapter lists (R10, R19, R45, R81 to R83, R87, R99, R125, R130, R141, R146,
R164, R168, R169, R177, R179), the settings of the transition and of every layer among them, and both outputs carry the blanking
line 1 of BLACK (R16, R68, R125); that the straps as last read stand is the model's choice (log entry 4). -/
def Obligations.ResetAssertedClearsEveryBlock : Prop :=
  ∀ s : State, ∃ t, exec .resetAsserted s = .next t ∧
    (t.loader.inputAsserted = true ∧ t.loader.state = .loading ∧ t.loader.listeningCount = 0 ∧ t.loader.configDefault = false ∧
      t.loader.station = s.loader.station ∧ t.loader.final = s.loader.final ∧ t.loader.boot = s.loader.boot) ∧
    (t.raster.format = .A ∧ t.raster.line = 1 ∧ t.raster.sample = 0 ∧ t.raster.refState = .free ∧ t.raster.missCount = 0 ∧
      t.raster.rate = .nominal ∧ t.raster.deadlineFlag = true ∧ t.raster.switchLine = 7 ∧ t.raster.guardLines = 20 ∧
      t.raster.offsetLines = 0 ∧ t.raster.offsetSamples = 0) ∧
    (t.port.lineState = .busy ∧ t.port.rx = .waitIdle ∧ t.port.standingPending = false ∧ t.port.standingRenewed = false ∧ t.port.standingErrors = 0 ∧
      t.port.refusals = [] ∧ t.port.attempt = none ∧ t.port.budgetCount = 0 ∧ t.port.budgetField = 1) ∧
    (t.intake.permissions = List.replicate 16 .full ∧ t.intake.leverPolicy = .fixed ∧ t.intake.linkGroup = 0 ∧
      t.intake.leverOwner = none ∧ t.intake.queue = []) ∧
    (t.peers.entries = [] ∧ t.peers.duplicate = false ∧ t.peers.quiet = 0 ∧ t.peers.repeatCount = 0) ∧
    (t.crosspoint.programme = none ∧ (∀ n, t.crosspoint.entry n = none) ∧
      ∀ b, t.crosspoint.buses.get b = { selected := 0, previous := 0, lastSelector := none, effective := 0 }) ∧
    (t.monitor.window = 2 ∧ t.monitor.threshold = 8 ∧ t.monitor.period = 50 ∧ t.monitor.primary = 0 ∧ t.monitor.gathering = false ∧
      ∀ i, t.monitor.get i =
        { buffer := [], substitutionSeen := false, checkFailureSeen := false, absenceSeen := false, count := 0, divider := 0,
          leakDivider := 0, health := .clean }) ∧
    (t.engine.state = .idle ∧ t.engine.progress = 0 ∧ t.engine.startProgress = 0 ∧ t.engine.elapsed = 0 ∧
      t.engine.remaining = 30 ∧ t.engine.direction = false ∧
      t.engine.settings =
        { type := .mix, rate := 30, pattern := .horizontal, mode := .normal, cx := 512, cy := 512, softness := 0, borderWidth := 0,
          border := { y := 940#10, cb := 512#10, cr := 512#10 } } ∧
      t.engine.selection = { background := true, mask1 := false, mask2 := false, mask3 := false, mask4 := false } ∧
      t.engine.sense = .up ∧ t.engine.engaged = false ∧ t.engine.latest = none) ∧
    ((∀ l, t.keys.get l =
        { settings := { type := .luma, clip := 0, gain := 16, invert := false, rate := 15, maskMode := .none, left := 0, top := 0,
                        width := 0, height := 0 },
          state := .off, level := 0, elapsed := 0, moving := false }) ∧
      t.keys.stack = [.l1, .l2, .l3, .l4]) ∧
    (t.picture.limits = { yLo := 64, yHi := 940, cLo := 64, cHi := 960 } ∧
      t.picture.matte = { y := 502#10, cb := 512#10, cr := 512#10 } ∧ t.picture.pgm = t.picture.pvw ∧
      t.picture.pgm.line = 1 ∧ t.picture.pgm.fieldFlag = false ∧ t.picture.pgm.blankingFlag = true ∧
      (∀ n, n < 2640 → t.picture.pgm.sampleAt .A n = { y := 64#10, cb := 512#10, cr := 512#10 })) ∧
    (t.tally.onAir = 0#64 ∧ t.tally.preview = 0#64 ∧ t.tally.noFinal = false ∧ t.tally.lines = List.replicate 12 .dark) ∧
    t.sets.contribution = 1#64 ∧ t.sets.next = 1#64

/-- The release of the reset input reads the strap pins once, and under FLASH changes nothing else but the count of switch points;
that an input that is not asserted is not released is the model's choice, log entry 1. With BOOTSEL at DEFAULTS, LOADING ends at
once with the default configuration (R180; that the command itself ends it is deduced, log entry 19). -/
def Obligations.ReleaseReadsStrapsAndMayEndLoading : Prop :=
  (∀ (s : State) (station : Station) (final : Bool),
      (s.loader.inputAsserted = true →
        exec (.resetReleased station final .flash) s = .next (s.setLoader
          { s.loader with inputAsserted := false, station := station, final := final, boot := .flash, loadingSwitchPoints := 0 })) ∧
      (Released s → ∀ boot, exec (.resetReleased station final boot) s = .next s)) ∧
  (∀ (s : State) (station : Station) (final : Bool), s.loader.inputAsserted = true →
      ∃ t, exec (.resetReleased station final .defaults) s = .next t ∧ DefaultsInForce station t ∧ LoadingKept s t ∧
        t.loader.inputAsserted = false ∧ t.loader.station = station ∧ t.loader.final = final)

/-- A block with a wrong marker or length, or whose sum differs, is rejected whole, and the default configuration is in force
(R180, R182, R184). The flash is unreadable once the 16th switch point after the release has come in LOADING; before it the event
does nothing. In that state every command that moves the counters finds LOADING ended as the event ends it (R180; log entry 20).
-/
def Obligations.RejectedOrUnreadableFlashGivesDefaults : Prop :=
  (∀ (s : State) (m0 m1 l0 l1 s0 s1 : Byte) (rest : List Byte),
      Released s → s.loader.state = .loading → s.loader.boot = .flash →
      (m0.toNat ≠ 87 ∨ m1.toNat ≠ 86 ∨ l0.toNat * 256 + l1.toNat ≠ 323 ∨
        (rest.length = 323 ∧
          (m0.toNat + m1.toNat + l0.toNat + l1.toNat + (rest.map fun b => b.toNat).sum) % 65536 ≠ s0.toNat * 256 + s1.toNat)) →
      ∃ t, exec (.endOfLoading (m0 :: m1 :: l0 :: l1 :: s0 :: s1 :: rest)) s = .next t ∧
        DefaultsInForce s.loader.station t ∧ LoadingKept s t) ∧
  (∀ s : State, Released s → s.loader.state = .loading → s.loader.boot = .flash →
      (16 ≤ s.loader.loadingSwitchPoints →
        ∃ t, exec .flashUnreadable s = .next t ∧ DefaultsInForce s.loader.station t ∧ LoadingKept s t) ∧
      (s.loader.loadingSwitchPoints < 16 → exec .flashUnreadable s = .next s)) ∧
  (∀ s : State, Released s → s.loader.state = .loading → s.loader.boot = .flash → 16 ≤ s.loader.loadingSwitchPoints →
      ∃ t, exec .flashUnreadable s = .next t ∧ t.loader.state = .listening ∧
        exec .lineStart s = exec .lineStart t ∧ exec .switchPoint s = exec .switchPoint t ∧
        exec .cueDeadline s = exec .cueDeadline t ∧ exec .missCheck s = exec .missCheck t ∧
        ∀ format field, exec (.referenceFieldStart format field) s = exec (.referenceFieldStart format field) t)

/-- A block whose marker, length and sum are right is in force, every field of it clamped or replaced as R183 lays down: the
raster values, the map (by the two passes of MapValidationSettlesEntries), the programme source number, the intake's and the
Monitor's values, the limits, the matte, and the initial transition and key settings. -/
def Obligations.AcceptedBlockIsInForce : Prop :=
  ∀ (s : State) (s0 s1 : Byte) (content : List Byte),
    Released s → s.loader.state = .loading → s.loader.boot = .flash →
    content.length = 323 →
    (87 + 86 + 1 + 67 + (content.map fun b => b.toNat).sum) % 65536 = s0.toNat * 256 + s1.toNat →
    let at8 := fun i => (content.getD i 0).toNat
    let at16 := fun i => at8 i * 256 + at8 (i + 1)
    let raw := (List.range 62).map fun i => ({ input := at8 (7 + 3 * i), backup := at8 (8 + 3 * i),
                                               failover := (content.getD (9 + 3 * i) 0).getLsbD 0 } : RawMapEntry)
    let keysAt := fun i => ({
      type := if at8 i = 1 then .linear else .luma, clip := min 876 (at16 (i + 1)), gain := max 1 (at8 (i + 3)),
      invert := (content.getD (i + 4) 0).getLsbD 0, rate := max 1 (min 999 (at16 (i + 5))),
      maskMode := if at8 (i + 7) = 1 then .inside else if at8 (i + 7) = 2 then .outside else .none,
      left := min 4095 (at16 (i + 8)), top := min 4095 (at16 (i + 10)), width := min 4095 (at16 (i + 12)),
      height := min 4095 (at16 (i + 14)) } : KeySettings)
    ∃ t, exec (.endOfLoading (87#8 :: 86#8 :: 1#8 :: 67#8 :: s0 :: s1 :: content)) s = .next t ∧
      LoadingKept s t ∧
      (t.loader.state = .listening ∧ t.loader.listeningCount = 0 ∧ t.loader.configDefault = false) ∧
      (t.raster.line = 1 ∧ t.raster.sample = 0 ∧ t.raster.refState = .free ∧ t.raster.missCount = 0 ∧ t.raster.deadlineFlag = true) ∧
      (at8 0 = 0 ∨ 3 < at8 0 → t.raster.format = .A) ∧ (at8 0 = 1 → t.raster.format = .B) ∧
      (at8 0 = 2 → t.raster.format = .C) ∧ (at8 0 = 3 → t.raster.format = .D) ∧
      t.raster.switchLine = max 1 (min 20 (at8 1)) ∧
      t.raster.guardLines = max 1 (min 64 (at8 2)) ∧
      t.monitor.window = max 1 (min 4 (at8 3)) ∧
      t.raster.offsetLines = min 63 (at8 4) ∧
      t.raster.offsetSamples = min (lineSamples t.raster.format - 1) (at16 5) ∧
      (∃ p, t.crosspoint.programme = some p ∧
        (p.val = if 2 ≤ at8 193 ∧ at8 193 ≤ 63 then at8 193 else 48 + s.loader.station.val) ∧
        ∀ n : Source, 2 ≤ n.val → t.crosspoint.entry n = ((validateMap p raw)[n.val - 2]?).join) ∧
      t.intake.linkGroup.val = (if at8 194 ≤ 3 then at8 194 else 0) ∧
      t.intake.leverPolicy = (if at8 195 = 1 then .latest else .fixed) ∧
      (∀ p : Station, t.intake.permission p =
        if at8 (196 + p.val) = 0 then .full else if at8 (196 + p.val) = 1 then .limited else .watch) ∧
      t.monitor.threshold = max 1 (at8 212) ∧
      t.monitor.period = at8 213 ∧
      (s.monitor.inputs.length = 12 → ∀ i : InputNo, (t.monitor.get i).leakDivider = min 3 (at8 (214 + i.val))) ∧
      (t.picture.limits.yLo, t.picture.limits.yHi) =
        (if 4 ≤ at16 226 ∧ at16 228 ≤ 1019 ∧ at16 226 ≤ at16 228 then (at16 226, at16 228) else (64, 940)) ∧
      (t.picture.limits.cLo, t.picture.limits.cHi) =
        (if 4 ≤ at16 230 ∧ at16 232 ≤ 1019 ∧ at16 230 ≤ at16 232 then (at16 230, at16 232) else (64, 960)) ∧
      t.picture.matte.y.toNat = max t.picture.limits.yLo (min t.picture.limits.yHi (at16 234 % 1024)) ∧
      t.picture.matte.cb.toNat = max t.picture.limits.cLo (min t.picture.limits.cHi (at16 236 % 1024)) ∧
      t.picture.matte.cr.toNat = max t.picture.limits.cLo (min t.picture.limits.cHi (at16 238 % 1024)) ∧
      t.engine.settings =
        { type := if at8 240 = 1 then .wipe else .mix, rate := max 1 (min 999 (at16 241)),
          pattern := if at8 243 = 1 then .vertical else if at8 243 = 2 then .box else if at8 243 = 3 then .diamond else .horizontal,
          mode := if at8 244 = 1 then .reverse else if at8 244 = 2 then .alternate else .normal,
          cx := min 1023 (at16 245), cy := min 1023 (at16 247), softness := min 255 (at16 249), borderWidth := min 255 (at16 251),
          border := { y := BitVec.ofNat 10 (at16 253), cb := BitVec.ofNat 10 (at16 255), cr := BitVec.ofNat 10 (at16 257) } } ∧
      t.engine.remaining = t.engine.settings.rate ∧
      (t.keys.layer1.settings = keysAt 259 ∧ t.keys.layer2.settings = keysAt 275 ∧ t.keys.layer3.settings = keysAt 291 ∧
        t.keys.layer4.settings = keysAt 307)

/-- The two passes that validate the map: an entry becomes UNMAPPED exactly when its input is outside 0..11 or named by a
lower-numbered entry, and any other keeps its input and its failover enable; a mapped entry keeps its backup exactly when that is
a source number that is not the own programme number, not the entry's own source, and BLACK, MATTE or mapped (R84, R85). -/
def Obligations.MapValidationSettlesEntries : Prop :=
  ∀ (programme : Source) (raw : List RawMapEntry), raw.length ≤ 62 →
    let m := validateMap programme raw
    m.length = raw.length ∧
    (∀ (i : Nat) (hi : i < raw.length), m[i]? = some none ↔
      11 < raw[i].input ∨ ∃ (j : Nat) (hj : j < i), raw[j].input = raw[i].input) ∧
    (∀ (i : Nat) (hi : i < raw.length) (e : MapEntry), m[i]? = some (some e) →
      e.input.val = raw[i].input ∧ e.failover = raw[i].failover ∧
      (∀ b, e.backup = some b ↔ b.val = raw[i].backup ∧ b ≠ programme ∧ b.val ≠ i + 2 ∧
        (b.val < 2 ∨ ∃ e', m[b.val - 2]? = some (some e'))))

/-- ENTER_RUNNING at the listening count of 8: RUNNING, STANDING pending, the repeat count 0 and, under FIXED, the lowest-numbered
live delegated FULL panel as lever owner; before that count nothing (that the row alone enters RUNNING so is the model's choice,
log entries 6 and 29). A switch point in LISTENING adds one to the listening count; the one that brings it to 8 enters RUNNING
with STANDING pending, and any other leaves the station in LISTENING with nothing made pending. -/
def Obligations.ListeningEndsAtTheEighthSwitchPoint : Prop :=
  (∀ s : State, Released s → s.loader.state = .listening →
      (8 ≤ s.loader.listeningCount → ∃ t, exec .enterRunning s = .next t ∧
        t.loader = { s.loader with state := .running } ∧ t.port.standingPending = true ∧ t.peers.repeatCount = 0 ∧
        (s.intake.leverPolicy = .fixed → t.intake.leverOwner = s.lowestOwner) ∧
        (s.intake.leverPolicy = .latest → s.intake.leverOwner = none → t.intake.leverOwner = none) ∧
        t.intake.queue = s.intake.queue ∧ t.peers.entries = s.peers.entries ∧ t.raster = s.raster ∧ t.monitor = s.monitor ∧
        t.keys = s.keys ∧ t.engine.state = s.engine.state) ∧
      (s.loader.listeningCount < 8 → exec .enterRunning s = .next s)) ∧
  (∀ s : State, Released s → s.raster.deadlineFlag = true → s.loader.state = .listening →
      ∃ t, exec .switchPoint s = .next t ∧ t.loader.listeningCount = s.loader.listeningCount + 1 ∧
        (7 ≤ s.loader.listeningCount → t.loader.state = .running ∧ t.port.standingPending = true ∧ t.peers.repeatCount = 0) ∧
        (s.loader.listeningCount < 7 → t.loader.state = .listening ∧ t.port.standingPending = s.port.standingPending))

/-! ## Raster and reference -/

/-- LINE_START: the sample counter stands at 0 and the line counter one further, from the last line of the frame at 1; in LOADING,
LISTENING and BARRED, and on every line outside the active lines, both outputs carry BLACK through the limiter; on every line the
sample counts 0 to L − W − 1 carry it, and count L − W carries active position 0; each line has its number, its two flags and its
check word; nothing but the generator, the Monitor and the outputs changes (R16, R68, R101, R113 to R115). At the start of an
active output line each input whose buffer holds the line, the oldest of that number (log entry 36), loses it and every older
line; an input that does not hold it keeps its buffer and records a substitution; on any other line the Monitor is not touched
(R101). -/
def Obligations.LineStartMovesCountersAndReadsBuffers : Prop :=
  (∀ s : State, Counting s → ∃ t, exec .lineStart s = .next t ∧
      t.raster.sample = 0 ∧
      t.raster.line = (if s.raster.line < frameLines s.raster.format then s.raster.line + 1 else 1) ∧
      t.raster = { s.raster with line := t.raster.line, sample := 0, startedLines := t.raster.startedLines } ∧
      t = ((s.setRaster t.raster).setMonitor t.monitor).setPicture t.picture ∧
      t.picture = { s.picture with pgm := t.picture.pgm, pvw := t.picture.pvw } ∧
      (t.picture.pgm.line = t.raster.line ∧ t.picture.pvw.line = t.raster.line) ∧
      (∀ o ∈ [t.picture.pgm, t.picture.pvw],
        (o.fieldFlag = true ↔ fieldOfLine t.raster.format t.raster.line = .two) ∧
        (o.blankingFlag = true ↔ isActiveLine t.raster.format t.raster.line = false) ∧ o.check = lineCheck o.y o.cb o.cr ∧
        (∀ n, n < lineSamples t.raster.format - activeWidth t.raster.format → o.sampleAt t.raster.format n =
          { y := s.picture.limits.luma 64, cb := s.picture.limits.chroma 512, cr := s.picture.limits.chroma 512 }) ∧
        (o.y.length = activeWidth t.raster.format ∧ o.cb.length * 2 = activeWidth t.raster.format ∧
          o.cr.length * 2 = activeWidth t.raster.format) ∧
        (∀ x, x < activeWidth t.raster.format →
          o.sampleAt t.raster.format (lineSamples t.raster.format - activeWidth t.raster.format + x) =
            { y := o.y.getD x 0, cb := o.cb.getD (x / 2) 0, cr := o.cr.getD (x / 2) 0 })) ∧
      (s.loader.state ≠ .running ∨ isActiveLine t.raster.format t.raster.line = false →
        (∀ v ∈ t.picture.pgm.y, v = s.picture.limits.luma 64) ∧ (∀ v ∈ t.picture.pvw.y, v = s.picture.limits.luma 64) ∧
        (∀ v ∈ t.picture.pgm.cb ++ t.picture.pgm.cr ++ t.picture.pvw.cb ++ t.picture.pvw.cr, v = s.picture.limits.chroma 512))) ∧
  (∀ s : State, Counting s → s.monitor.inputs.length = 12 → ∃ t, exec .lineStart s = .next t ∧
      (isActiveLine t.raster.format t.raster.line = true → ∀ i : InputNo,
        (∀ (older newer : List VideoLine) (l : VideoLine), (s.monitor.get i).buffer = older ++ l :: newer →
          l.line = t.raster.line → (∀ o ∈ older, o.line ≠ t.raster.line) →
          t.monitor.get i = { s.monitor.get i with buffer := newer }) ∧
        ((∀ l ∈ (s.monitor.get i).buffer, l.line ≠ t.raster.line) →
          t.monitor.get i = { s.monitor.get i with substitutionSeen := true })) ∧
      (isActiveLine t.raster.format t.raster.line = false → t.monitor = s.monitor))

/-- Every step keeps the limits in order and in their range and every sample of both outputs, in horizontal blanking and in the
active positions, within the limits in force, luma within the luma limits and chroma within the chroma limits, whatever starts the
line: a line start, a move of the counters, a reload, the end of LOADING, a reset or the clock (R68, R81, R113, R115). Every
sample that a LINE_START puts on PGM or PVW, on a blanking line and on an active one, lies within them whatever the outputs held
before. -/
def Obligations.OutputsStayWithinLimits : Prop :=
  KeptByStep PictureSound ∧
  ∀ s : State, Counting s → s.picture.limits.yLo ≤ s.picture.limits.yHi → s.picture.limits.yHi ≤ 1019 →
    s.picture.limits.cLo ≤ s.picture.limits.cHi → s.picture.limits.cHi ≤ 1019 →
    ∃ t, exec .lineStart s = .next t ∧
      ∀ o ∈ [t.picture.pgm, t.picture.pvw], ∀ n, n < lineSamples s.raster.format →
        let v := o.sampleAt s.raster.format n
        (s.picture.limits.yLo ≤ v.y.toNat ∧ v.y.toNat ≤ s.picture.limits.yHi) ∧
        (s.picture.limits.cLo ≤ v.cb.toNat ∧ v.cb.toNat ≤ s.picture.limits.cHi) ∧
        (s.picture.limits.cLo ≤ v.cr.toNat ∧ v.cr.toNat ≤ s.picture.limits.cHi)

/-- The luma, Cb and Cr that PGM carries on an active line in RUNNING with every layer at level 0. Outside a transition of the
background it is the PGM source's own line through the limiter: the line its input's buffer holds (the oldest of that number, log
entry 36), default fill when it does not hold it, BLACK, or MATTE. In a MIX each is, sample by sample, floor((a (1024 − p) + b p +
512) / 1024) of the PGM and PST lines at progress p, through the limiter (R15, R62 to R64, R69, R70, R80, R81, R101). -/
def Obligations.ProgrammeShowsItsSources : Prop :=
  ∀ s : State, Running s → s.monitor.inputs.length = 12 → (∀ l, (s.keys.get l).level = 0) →
    let line := if s.raster.line < frameLines s.raster.format then s.raster.line + 1 else 1
    let held := fun (n : Source) (l : VideoLine) => ∃ e older newer, s.crosspoint.entry n = some e ∧
      (s.monitor.get e.input).buffer = older ++ l :: newer ∧ l.line = line ∧ ∀ o ∈ older, o.line ≠ line
    let w := activeWidth s.raster.format
    let shows := fun (o : OutputLine) (y cb cr : Nat → Nat) =>
      o.y = (List.range w).map (fun x => s.picture.limits.luma (y x)) ∧
      o.cb = (List.range (w / 2)).map (fun j => s.picture.limits.chroma (cb j)) ∧
      o.cr = (List.range (w / 2)).map (fun j => s.picture.limits.chroma (cr j))
    let y := fun (l : VideoLine) x => (l.y.getD x 64#10).toNat
    let cb := fun (l : VideoLine) j => (l.cb.getD j 512#10).toNat
    let cr := fun (l : VideoLine) j => (l.cr.getD j 512#10).toNat
    let mixed := fun (a b : Nat → Nat) i => (a i * (1024 - s.engine.progress) + b i * s.engine.progress + 512) / 1024
    let pgm := s.crosspoint.buses.pgm.effective
    isActiveLine s.raster.format line = true →
    ∃ t, exec .lineStart s = .next t ∧
      (s.engine.state = .idle ∨ s.engine.selection.background = false →
        (∀ l, held pgm l → shows t.picture.pgm (y l) (cb l) (cr l)) ∧
        (∀ e, s.crosspoint.entry pgm = some e → (∀ l ∈ (s.monitor.get e.input).buffer, l.line ≠ line) →
          shows t.picture.pgm (fun _ => 64) (fun _ => 512) (fun _ => 512)) ∧
        (pgm = 0 → shows t.picture.pgm (fun _ => 64) (fun _ => 512) (fun _ => 512)) ∧
        (pgm = 1 → shows t.picture.pgm (fun _ => s.picture.matte.y.toNat) (fun _ => s.picture.matte.cb.toNat)
          (fun _ => s.picture.matte.cr.toNat))) ∧
      (s.engine.state ≠ .idle → s.engine.selection.background = true → s.engine.settings.type = .mix →
        ∀ a b, held pgm a → held s.crosspoint.buses.pst.effective b →
          shows t.picture.pgm (mixed (y a) (y b)) (mixed (cb a) (cb b)) (mixed (cr a) (cr b)))

/-- What both outputs carry on an active line in RUNNING, whatever the transition and the layers. The line is rendered, from the
lines the buffers hold (log entry 36), as a scene: the background of PGM is PGM's picture in IDLE or with the background outside
the selection, and a MIX or a WIPE of PGM toward PST at the progress otherwise, and that of PVW is PST's picture when the
selection has the background and PGM's when it has not; the layers stand in stack order with their settings, fill and key signal,
in PGM at their levels and in PVW at 1024 or 0 by their end states, toggled in IDLE when in the key mask (R11, R12, R15, R69). The
active samples are those of the scene at the frame row of R66, through the limiter. A sample of a WIPE is PGM, the soft edge, the
border or PST by its distance d = E − P inside the edge, with the pattern value of R71 before direction (R71 to R73); each layer
is mixed over what lies below it by its alpha from clip, gain, invert, mask and level, Cb and Cr by the even luma sample's (R65,
R76 to R80). -/
def Obligations.LinesAreRenderedFromTheirScenes : Prop :=
  (∀ s : State, Running s →
    let f := s.raster.format
    let b := s.crosspoint.buses
    let line := if s.raster.line < frameLines f then s.raster.line + 1 else 1
    let pic := sourcePicture s.crosspoint s.picture.matte (s.monitor.inputs.map fun r => (bufferRead line r.buffer).1)
    let endsOn := fun l => (s.keys.get l).state = .on ∨ (s.keys.get l).state = .rising
    ∃ t, exec .lineStart s = .next t ∧ (isActiveLine f line = true →
       t.picture.pgm = renderLine f s.picture.limits line (programmeScene s pic) ∧
       t.picture.pvw = renderLine f s.picture.limits line (previewScene s pic) ∧
       (s.engine.state = .idle ∨ s.engine.selection.background = false →
         (programmeScene s pic).background = .single (pic b.pgm.effective)) ∧
       (s.engine.state ≠ .idle → s.engine.selection.background = true → s.engine.settings.type = .mix →
         (programmeScene s pic).background = .mix (pic b.pgm.effective) (pic b.pst.effective) s.engine.progress) ∧
       (s.engine.state ≠ .idle → s.engine.selection.background = true → s.engine.settings.type = .wipe →
         (programmeScene s pic).background =
           .wipe (pic b.pgm.effective) (pic b.pst.effective) s.engine.settings s.engine.direction s.engine.progress) ∧
       (previewScene s pic).background =
         .single (pic (if s.engine.selection.background then b.pst.effective else b.pgm.effective)) ∧
       (programmeScene s pic).layers.map (·.level) = s.keys.stack.map (fun l => (s.keys.get l).level) ∧
       (previewScene s pic).layers.length = s.keys.stack.length ∧
       (∀ (k : Nat) (l : Layer) (v : KeyedLayer), s.keys.stack[k]? = some l → (programmeScene s pic).layers[k]? = some v →
         v.settings = (s.keys.get l).settings ∧ v.fill = pic (b.get (fillBus l)).effective ∧
         ((s.keys.get l).settings.type = .linear → v.signal = pic (b.get (keyBus l)).effective) ∧
         ((s.keys.get l).settings.type = .luma → v.signal = v.fill)) ∧
       (∀ (k : Nat) (l : Layer) (v : KeyedLayer), s.keys.stack[k]? = some l → (previewScene s pic).layers[k]? = some v →
         v.settings = (s.keys.get l).settings ∧ v.fill = pic (b.get (fillBus l)).effective ∧
         ((s.keys.get l).settings.type = .linear → v.signal = pic (b.get (keyBus l)).effective) ∧
         ((s.keys.get l).settings.type = .luma → v.signal = v.fill) ∧
         (endsOn l → v.level = if s.engine.state = .idle ∧ s.engine.selection.mask l = true then 0 else 1024) ∧
         (¬ endsOn l → v.level = if s.engine.state = .idle ∧ s.engine.selection.mask l = true then 1024 else 0)))) ∧
  (∀ (f : Format) (lim : Limits) (n : Nat) (scene : Scene),
    let o := renderLine f lim n scene
    let row := frameRow f n
    (interlaced f = true → (21 ≤ n → n ≤ 560 → row = 2 * (n - 21)) ∧ (584 ≤ n → n ≤ 1123 → row = 2 * (n - 584) + 1)) ∧
    (interlaced f = false → 26 ≤ n → n ≤ 745 → row = n - 26) ∧
    o.y = (List.range (activeWidth f)).map (fun x => lim.luma (scene.y f row x)) ∧
    o.cb = (List.range (activeWidth f / 2)).map (fun j => lim.chroma (scene.cb f row j)) ∧
    o.cr = (List.range (activeWidth f / 2)).map (fun j => lim.chroma (scene.cr f row j))) ∧
  (∀ (f : Format) (t : TransSettings) (dir : Bool) (m x row : Nat) (p q : LinePicture),
    let u := x * 1024 / activeWidth f
    let v := row * 1024 / activeHeight f
    let base := match t.pattern with
      | .horizontal => u
      | .vertical => v
      | .box => min 1023 (2 * max ((u : Int) - t.cx).natAbs ((v : Int) - t.cy).natAbs)
      | .diamond => min 1023 (((u : Int) - t.cx).natAbs + ((v : Int) - t.cy).natAbs)
    let value := if t.mode = .reverse ∨ t.mode = .alternate ∧ dir = true then 1023 - base else base
    let d : Int := (m * (1024 + t.softness + t.borderWidth) / 1024 : Nat) - (value : Nat)
    let zone := fun (a b edge : Nat) =>
      if d ≤ 0 then a
      else if d < t.softness then mix a (if 0 < t.borderWidth then edge else b) (d.toNat * 1024 / t.softness)
      else if d < t.softness + t.borderWidth then edge
      else b
    (Background.wipe p q t dir m).y f x row = zone (p.y x) (q.y x) t.border.y.toNat ∧
    (∀ j, x = 2 * j → (Background.wipe p q t dir m).cb f j row = zone (p.cb j) (q.cb j) t.border.cb.toNat ∧
      (Background.wipe p q t dir m).cr f j row = zone (p.cr j) (q.cr j) t.border.cr.toNat)) ∧
  (∀ (f : Format) (b : Background) (ls : List KeyedLayer) (l : KeyedLayer) (x row : Nat),
    let below : Scene := { background := b, layers := ls }
    let scene : Scene := { background := b, layers := ls ++ [l] }
    let key := if l.signal.y x ≤ 64 then 0 else if 940 ≤ l.signal.y x then 876 else l.signal.y x - 64
    let shaped := if key ≤ l.settings.clip then 0 else min 1024 ((key - l.settings.clip) * l.settings.gain * 64 / 876)
    let turned := if l.settings.invert then 1024 - shaped else shaped
    let inside := l.settings.left ≤ x ∧ x < l.settings.left + l.settings.width ∧
      l.settings.top ≤ row ∧ row < l.settings.top + l.settings.height
    let masked := match l.settings.maskMode with
      | .none => turned
      | .inside => if inside then turned else 0
      | .outside => if inside then 0 else turned
    let alpha := masked * l.level / 1024
    scene.y f row x = mix (below.y f row x) (l.fill.y x) alpha ∧
    (∀ j, x = 2 * j → scene.cb f row j = mix (below.cb f row j) (l.fill.cb j) alpha ∧
      scene.cr f row j = mix (below.cr f row j) (l.fill.cr j) alpha))

/-- SWITCH_POINT: with the deadline flag set, the flag is cleared, the next field opens with the identity of the raster field that
holds the switch line, and the frame budget begins anew; with the flag clear it is no switch point and nothing changes (R122,
R135). A switch point in LOADING changes nothing but the generator, the frame budget, the count of switch points, the free-value
count and, where the counters moved, the outputs. That the command runs the counters on to the switch line, which then starts, is
the model's choice, log entry 5; from the switch line itself neither counter moves and the outputs stand. -/
def Obligations.SwitchPointOpensTheNextField : Prop :=
  (∀ s : State, Counting s → CountersSound s →
      (s.raster.deadlineFlag = true → ∃ t, exec .switchPoint s = .next t ∧
        t.raster.deadlineFlag = false ∧ t.raster.field = s.raster.field + 1 ∧ t.raster.line ∈ s.raster.switchLines ∧
        t.raster.fieldId = fieldOfLine s.raster.format t.raster.line ∧
        t.port.budgetCount = 0 ∧ t.port.budgetField = s.raster.field + 1 ∧ t.port.attempt = s.port.attempt ∧
        t.raster.refState = s.raster.refState ∧ t.raster.missCount = s.raster.missCount ∧ t.pending = s.pending ∧
        (s.raster.line ∈ s.raster.switchLines →
          t.picture = s.picture ∧ t.raster.line = s.raster.line ∧ t.raster.sample = s.raster.sample) ∧
        (s.raster.line ∉ s.raster.switchLines → t.raster.sample = 0 ∧ t.picture.pgm.line = t.raster.line ∧
          t.picture.pvw.line = t.raster.line ∧ t.picture.pgm.blankingFlag = true ∧ t.picture.pvw.blankingFlag = true)) ∧
      (s.raster.deadlineFlag = false → exec .switchPoint s = .next s)) ∧
  (∀ s : State, Counting s → CountersSound s → s.loader.state = .loading → s.raster.deadlineFlag = true →
      ∃ t, exec .switchPoint s = .next t ∧
        t = ((((s.setRaster t.raster).setPort { s.port with budgetCount := 0, budgetField := s.raster.field + 1 }).setLoader
          { s.loader with loadingSwitchPoints := s.loader.loadingSwitchPoints + 1 }).setFreeCount t.freeCount).setPicture
            { s.picture with pgm := t.picture.pgm, pvw := t.picture.pvw })

/-- CUE_DEADLINE: the counters stand on a deadline line and the flag is set; a deadline already taken is not taken again (R123;
that the command runs the counters on to the line, which then starts, is the model's choice, log entry 5; on a deadline line
nothing but the flag changes). -/
def Obligations.CueDeadlineSetsTheFlag : Prop :=
  ∀ s : State, Counting s → CountersSound s →
    (s.raster.deadlineFlag = false → ∃ t, exec .cueDeadline s = .next t ∧
      t.raster.deadlineFlag = true ∧ t.raster.line ∈ s.raster.deadlineLines ∧ t.raster.field = s.raster.field ∧
      (s.raster.line ∈ s.raster.deadlineLines → t = s.setRaster { s.raster with deadlineFlag := true }) ∧
      (s.raster.line ∉ s.raster.deadlineLines → t.raster.sample = 0 ∧
        t.picture.pgm.line = t.raster.line ∧ t.picture.pvw.line = t.raster.line) ∧
      t.raster = { s.raster with
        line := t.raster.line, sample := t.raster.sample, deadlineFlag := true, startedLines := t.raster.startedLines } ∧
      t = ((s.setRaster t.raster).setMonitor t.monitor).setPicture t.picture) ∧
    (s.raster.deadlineFlag = true → exec .cueDeadline s = .next s)

/-- A reference field start taken in FREE moves the state to REALIGN with the miss count 0 and does not move the counters; a start
on a reference of another format is not taken (R116, R118). One taken in REALIGN reloads the counters, whatever its deviation, and
locks; one taken in LOCKED reloads them when its deviation is more than two lines and leaves them when it is not (R116, R118 to
R120). A reload at deviation 0 moves no counter and starts no line. A reload puts the counters at the expected point; forward over
a deadline line, the line stood on among them, it sets the deadline flag; with the flag then clear, or off a switch line, no field
opens; onto a switch line with the flag set, a switch point is taken; and both outputs carry the line landed on (R115, R122 to
R124; that a landing on a deadline line sets the flag and that a landing within another line starts that line is the model's
choice, log entry 11). -/
def Obligations.ReferenceStartsRealignAndLock : Prop :=
  (∀ (s : State) (format : Format) (field : FieldId), Counting s →
      (format = s.raster.format → field ∈ fieldsOf format → s.raster.refState = .free →
        exec (.referenceFieldStart format field) s =
          .next (s.setRaster { s.raster with refState := .realign, missCount := 0, startSeen := true })) ∧
      (format ≠ s.raster.format → exec (.referenceFieldStart format field) s = .next s)) ∧
  (∀ (s : State) (field : FieldId), Counting s → CountersSound s → field ∈ fieldsOf s.raster.format →
      let f := s.raster.format
      let dev := s.raster.deviation field
      let newLine := wrapLine f (firstLine field + s.raster.offsetLines)
      let passed := dev < 0 ∧ ∃ d ∈ s.raster.deadlineLines,
        linesAhead f s.raster.line d ≤ linesAhead f s.raster.line newLine
      let flag := s.raster.deadlineFlag = true ∨ passed ∨ newLine ∈ s.raster.deadlineLines
      let reloads := s.raster.refState = .realign ∨ s.raster.refState = .locked ∧ 2 * lineSamples f < dev.natAbs
      (reloads → dev = 0 → ∃ t, exec (.referenceFieldStart f field) s = .next t ∧
        t = s.setRaster { s.raster with refState := .locked, missCount := 0, startSeen := true, rate := t.raster.rate }) ∧
      (reloads → dev ≠ 0 → ∃ t, exec (.referenceFieldStart f field) s = .next t ∧
        t.raster.refState = .locked ∧ t.raster.missCount = 0 ∧ t.raster.line = newLine ∧
        t.raster.sample = s.raster.offsetSamples ∧
        (newLine ≠ s.raster.line ∨ s.raster.offsetSamples = 0 →
          t.picture.pgm.line = newLine ∧ t.picture.pvw.line = newLine ∧
          (t.picture.pgm.blankingFlag = true ↔ isActiveLine f newLine = false)) ∧
        (newLine ∈ s.raster.switchLines → flag → t.raster.deadlineFlag = false ∧ t.raster.field = s.raster.field + 1 ∧
          t.raster.fieldId = fieldOfLine f newLine) ∧
        (newLine ∉ s.raster.switchLines ∨ ¬ flag →
          (t.raster.deadlineFlag = true ↔ flag) ∧ t.raster.field = s.raster.field ∧
          t = ((s.setRaster t.raster).setMonitor t.monitor).setPicture t.picture)) ∧
      ((s.raster.refState = .locked ∧ dev.natAbs ≤ 2 * lineSamples f) →
        ∃ t, exec (.referenceFieldStart f field) s = .next t ∧
          t = s.setRaster { s.raster with missCount := 0, startSeen := true, rate := t.raster.rate } ∧
          t.raster.rate ≠ .nominal))

/-- MISS_CHECK in REALIGN and LOCKED: no start since the previous check raises the miss count by one, at 3 the state becomes FREE
at the nominal rate with the count 0, and a start leaves the count; in FREE no check is made (R121). LEAVE_LOCK: at a miss count
of 3 the state becomes FREE, the count 0 and the rate nominal; below 3 nothing changes (R121). That MISS_CHECK runs the counters
on to the check point, whose line then starts, and that LEAVE_LOCK stands alone, are the model's choices, log entries 5 and 6. -/
def Obligations.MissesLeaveLockAtThree : Prop :=
  (∀ s : State, Counting s → CountersSound s →
      (s.raster.refState ≠ .free → ∃ t, exec .missCheck s = .next t ∧
        t = ((s.setRaster t.raster).setMonitor t.monitor).setPicture t.picture ∧
        (s.raster.line ∈ s.raster.missCheckLines → t = s.setRaster t.raster) ∧
        (s.raster.line ∉ s.raster.missCheckLines → t.picture.pgm.line = t.raster.line ∧ t.picture.pvw.line = t.raster.line) ∧
        t.raster.startSeen = false ∧ t.raster.line ∈ s.raster.missCheckLines ∧ t.raster.deadlineFlag = s.raster.deadlineFlag ∧
        (s.raster.startSeen = true → s.raster.missCount < 3 →
          t.raster.missCount = s.raster.missCount ∧ t.raster.refState = s.raster.refState ∧ t.raster.rate = s.raster.rate) ∧
        (s.raster.startSeen = false → s.raster.missCount < 2 →
          t.raster.missCount = s.raster.missCount + 1 ∧ t.raster.refState = s.raster.refState ∧ t.raster.rate = s.raster.rate) ∧
        (s.raster.startSeen = false → s.raster.missCount = 2 →
          t.raster.missCount = 0 ∧ t.raster.refState = .free ∧ t.raster.rate = .nominal)) ∧
      (s.raster.refState = .free → exec .missCheck s = .next s)) ∧
  (∀ s : State, Released s →
      (3 ≤ s.raster.missCount →
        exec .leaveLock s = .next (s.setRaster { s.raster with refState := .free, missCount := 0, rate := .nominal })) ∧
      (s.raster.missCount < 3 → exec .leaveLock s = .next s))

/-! ## Inputs -/

/-- INPUT_LINE_ARRIVAL of a line of the configured format: a check word that differs sets check-failure-seen; an active line that
the output has not started joins the buffer, the oldest line overrun when it holds A; every other input stands (R100, R103; log
entry 8 for what has started, and 10 for the lines that are checked). ABSENCE sets absence-seen of its input and nothing else
(R103; that it marks the field in progress alone, and that the lines the buffer holds stay in it, is the model's choice, log
entries 37 and 43). -/
def Obligations.InputEventsAreRecorded : Prop :=
  (∀ (s : State) (i : InputNo) (l : VideoLine), Released s → s.monitor.inputs.length = 12 → ofFormat s.raster.format l = true →
      ∃ t, exec (.inputLineArrival i l) s = .next t ∧ t = s.setMonitor t.monitor ∧
        t.monitor = { s.monitor with inputs := t.monitor.inputs } ∧
        (∀ j, j ≠ i → t.monitor.get j = s.monitor.get j) ∧
        ((t.monitor.get i).checkFailureSeen = true ↔
          (s.monitor.get i).checkFailureSeen = true ∨ lineCheck l.y l.cb l.cr ≠ l.check) ∧
        ((isActiveLine s.raster.format l.line = true ∧ s.raster.hasStarted l.line = false) →
          ((s.monitor.get i).buffer.length < s.monitor.window → (t.monitor.get i).buffer = (s.monitor.get i).buffer ++ [l]) ∧
          (s.monitor.window ≤ (s.monitor.get i).buffer.length →
            (t.monitor.get i).buffer = (s.monitor.get i).buffer.tail ++ [l])) ∧
        ((isActiveLine s.raster.format l.line = false ∨ s.raster.hasStarted l.line = true) →
          (t.monitor.get i).buffer = (s.monitor.get i).buffer) ∧
        ((t.monitor.get i).substitutionSeen = (s.monitor.get i).substitutionSeen ∧
          (t.monitor.get i).absenceSeen = (s.monitor.get i).absenceSeen ∧ (t.monitor.get i).count = (s.monitor.get i).count ∧
          (t.monitor.get i).divider = (s.monitor.get i).divider ∧ (t.monitor.get i).health = (s.monitor.get i).health)) ∧
  (∀ (s : State) (i : InputNo), Released s → s.monitor.inputs.length = 12 →
      ∃ t, exec (.absence i) s = .next t ∧ t = s.setMonitor { s.monitor with inputs := t.monitor.inputs } ∧
        t.monitor.get i = { s.monitor.get i with absenceSeen := true } ∧
        ∀ j, j ≠ i → t.monitor.get j = s.monitor.get j)

/-! ## Steps inside a switch point -/

/-- COMPLETION of an AUTO run that has reached its remaining rate, or of a lever at the far end: PGM and PST exchange their
selections and last selectors when the background is in the selection, each previous source the selection before; every moving
layer comes to rest at its far end and every other layer stands; the engine is IDLE at progress 0, disengaged; the direction bit
toggles under a WIPE with ALTERNATE; every effective source is resolved from its selection; and nothing else changes but the
source sets (R29, R31, R95; that the row alone completes so is the model's choice, log entries 6 and 29). -/
def Obligations.CompletionSwapsAndRests : Prop :=
  ∀ s : State, Released s →
    ((s.engine.state = .auto ∧ s.engine.remaining ≤ s.engine.elapsed) ∨
      (s.engine.state = .lever ∧ s.engine.engaged = true ∧
        ∃ position, s.engine.latest = some position ∧ 1008 ≤ derivedProgress s.engine.sense position)) →
    ∃ t, exec .completion s = .next t ∧
      (t.engine.state = .idle ∧ t.engine.progress = 0 ∧ t.engine.startProgress = 0 ∧ t.engine.elapsed = 0 ∧
        t.engine.remaining = s.engine.settings.rate ∧ t.engine.engaged = false ∧ t.engine.settings = s.engine.settings ∧
        t.engine.selection = s.engine.selection ∧ t.engine.sense = s.engine.sense ∧ t.engine.latest = s.engine.latest) ∧
      (s.engine.selection.background = true →
        t.crosspoint.buses.pgm.selected = s.crosspoint.buses.pst.selected ∧
        t.crosspoint.buses.pst.selected = s.crosspoint.buses.pgm.selected ∧
        t.crosspoint.buses.pgm.previous = s.crosspoint.buses.pgm.selected ∧
        t.crosspoint.buses.pst.previous = s.crosspoint.buses.pst.selected ∧
        t.crosspoint.buses.pgm.lastSelector = s.crosspoint.buses.pst.lastSelector ∧
        t.crosspoint.buses.pst.lastSelector = s.crosspoint.buses.pgm.lastSelector) ∧
      (∀ b, s.engine.selection.background = false ∨ (b ≠ .pgm ∧ b ≠ .pst) →
        (t.crosspoint.buses.get b).selected = (s.crosspoint.buses.get b).selected ∧
        (t.crosspoint.buses.get b).previous = (s.crosspoint.buses.get b).previous ∧
        (t.crosspoint.buses.get b).lastSelector = (s.crosspoint.buses.get b).lastSelector) ∧
      (∀ l, (s.keys.get l).moving = false → t.keys.get l = s.keys.get l) ∧
      (∀ l, (s.keys.get l).moving = true → (s.keys.get l).state = .rising →
        (t.keys.get l).state = .on ∧ (t.keys.get l).level = 1024 ∧ (t.keys.get l).elapsed = 0 ∧ (t.keys.get l).moving = false) ∧
      (∀ l, (s.keys.get l).moving = true → (s.keys.get l).state = .falling →
        (t.keys.get l).state = .off ∧ (t.keys.get l).level = 0 ∧ (t.keys.get l).elapsed = 0 ∧ (t.keys.get l).moving = false) ∧
      (∀ b, (t.crosspoint.buses.get b).effective =
        resolveSource s.crosspoint s.monitor (t.crosspoint.buses.get b).selected) ∧
      t.engine.direction = (s.engine.direction ^^ decide (s.engine.settings.type = .wipe ∧ s.engine.settings.mode = .alternate)) ∧
      (t.keys.stack = s.keys.stack ∧ ∀ l, (t.keys.get l).settings = (s.keys.get l).settings) ∧
      t = (((s.setEngine t.engine).setKeys t.keys).setCrosspoint { s.crosspoint with buses := t.crosspoint.buses }).setSets t.sets

/-- The direction bit: a completion toggles it when the type is WIPE and the mode ALTERNATE and leaves it otherwise; an
abandonment and a TRANSET leave it, a TAKE CUT, which completes, toggles it by the same test; Picture Arithmetic reads it under
ALTERNATE, at 0 as NORMAL and at 1 as REVERSE; after reset it is 0 (R31). -/
def Obligations.DirectionBitTogglesAtAlternateWipes : Prop :=
  (∀ s : State, s.engine.settings.type = .wipe → s.engine.settings.mode = .alternate →
    (complete s).engine.direction = !s.engine.direction) ∧
  (∀ s : State, s.engine.settings.type = .mix ∨ s.engine.settings.mode = .normal ∨ s.engine.settings.mode = .reverse →
    (complete s).engine.direction = s.engine.direction) ∧
  (∀ s : State, (abandon s).engine.direction = s.engine.direction) ∧
  (∀ s t : State, offerTakeCut s = .applied t →
    t.engine.direction = (s.engine.direction ^^ decide (s.engine.settings.type = .wipe ∧ s.engine.settings.mode = .alternate))) ∧
  (∀ (s t : State) (f : TransetFields), offerTranset f s = .applied t → t.engine.direction = s.engine.direction) ∧
  (∀ (settings : TransSettings) (u v : Nat), settings.mode = .alternate →
    patternValue settings false u v = patternValue { settings with mode := .normal } false u v ∧
    patternValue settings true u v = patternValue { settings with mode := .reverse } true u v) ∧
  State.reset.engine.direction = false

/-- The advance of an own key mix adds one to the elapsed count: below the key rate the level is floor(n × 1024 / rate), or 1024
less it when falling, and at or past it the layer rests, RISING at ON and 1024, FALLING at OFF and 0, with the count 0 (R47).
KEY_MIX_ENDS where a switch point is due whose advance brings the count to the key rate or past it is that switch point: with no
entry waiting the layer, if it is outside the key mask, then rests so, its settings as they stood. Off a switch point, and of a
layer whose mix does not end there, it changes nothing (that the row is the whole switch point is the model's choice, log entry
6). -/
def Obligations.KeyMixEndsAtRest : Prop :=
  (∀ r : LayerRecord, r.moving = false →
    let n := r.elapsed + 1
    (r.state = .rising → n < r.settings.rate → advanceMix r = { r with elapsed := n, level := n * 1024 / r.settings.rate }) ∧
    (r.state = .falling → n < r.settings.rate → advanceMix r = { r with elapsed := n, level := 1024 - n * 1024 / r.settings.rate }) ∧
    (r.state = .rising → r.settings.rate ≤ n → advanceMix r = { r with state := .on, level := 1024, elapsed := 0 }) ∧
    (r.state = .falling → r.settings.rate ≤ n → advanceMix r = { r with state := .off, level := 0, elapsed := 0 })) ∧
  (∀ (s : State) (l : Layer), Released s → s.loader.state ≠ .loading →
    let r := s.keys.get l
    let due := s.raster.deadlineFlag = true ∧ s.raster.line ∈ s.raster.switchLines
    let ends := r.moving = false ∧ (r.state = .rising ∨ r.state = .falling) ∧ r.settings.rate ≤ r.elapsed + 1
    (due → ends → exec (.keyMixEnds l) s = exec .switchPoint s ∧
      (s.engine.selection.mask l = false → s.intake.queue = [] → ∃ t, exec (.keyMixEnds l) s = .next t ∧
        t.raster.field = s.raster.field + 1 ∧
        (r.state = .rising → t.keys.get l = { r with state := .on, level := 1024, elapsed := 0 }) ∧
        (r.state = .falling → t.keys.get l = { r with state := .off, level := 0, elapsed := 0 }))) ∧
    (¬ due ∨ ¬ ends → exec (.keyMixEnds l) s = .next s))

/-- PRIMARY_TICK when the primary leak counter has reached P: it returns to 0 and each input's divider advances by one; below P,
and with P = 0, there is no tick (R105). LEAK_DUE when the divider of an input has counted D + 1 ticks: the divider returns to 0
and a count above 0 falls by one, a count of 0 stays; the other inputs stand (R105, R106). That the two rows alone take these
steps is the model's choice, log entry 6. -/
def Obligations.TicksAdvanceDividersAndLeaks : Prop :=
  (∀ s : State, Released s →
      (1 ≤ s.monitor.period → s.monitor.period ≤ s.monitor.primary →
        exec .primaryTick s = .next (s.setMonitor
          { s.monitor with primary := 0, inputs := s.monitor.inputs.map fun r => { r with divider := r.divider + 1 } })) ∧
      (s.monitor.period = 0 ∨ s.monitor.primary < s.monitor.period → exec .primaryTick s = .next s)) ∧
  (∀ (s : State) (i : InputNo), Released s → s.monitor.inputs.length = 12 →
      (s.monitor.get i).leakDivider + 1 ≤ (s.monitor.get i).divider →
      ∃ t, exec (.leakDue i) s = .next t ∧ t = s.setMonitor { s.monitor with inputs := t.monitor.inputs } ∧
        (t.monitor.get i).divider = 0 ∧
        (t.monitor.get i).count = (if 0 < (s.monitor.get i).count then (s.monitor.get i).count - 1 else 0) ∧
        t.monitor.get i = { s.monitor.get i with divider := 0, count := (t.monitor.get i).count } ∧
        ∀ j, j ≠ i → t.monitor.get j = s.monitor.get j)

/-- The Monitor's update of one input: the leak first, then the verdict, the count held to 255, and the health state from the
count and the eligibility with FAILED kept (R104, R106, R107). At a switch point that updates, the primary leak counter advances
and returns to 0 at P, each divider advances at such a tick and returns to 0 at D + 1, where the leak is due, and the count
becomes the one the leak and the verdict give (R105, R106). -/
def Obligations.VerdictMovesCountAndHealth : Prop :=
  (∀ (r : InputRecord) (threshold : Nat) (eligible : Bool), 1 ≤ threshold → r.count ≤ 255 →
    let c1 := if r.leakDivider + 1 ≤ r.divider then r.count - 1 else r.count
    let c2 := if r.substitutionSeen ∨ r.checkFailureSeen ∨ r.absenceSeen then min 255 (c1 + 1) else c1
    let t := r.leak.judge threshold eligible
    t.count = c2 ∧ t.count ≤ 255 ∧
    (t.substitutionSeen = false ∧ t.checkFailureSeen = false ∧ t.absenceSeen = false) ∧ t.buffer = r.buffer ∧
    (r.health = .failed → t.health = .failed) ∧
    (r.health ≠ .failed → c2 = 0 → t.health = .clean) ∧
    (r.health ≠ .failed → 1 ≤ c2 → c2 < threshold → t.health = .suspect) ∧
    (r.health ≠ .failed → threshold ≤ c2 → t.health = if eligible then .failed else .faulty)) ∧
  (∀ (s : State) (i : InputNo), Released s → CountersSound s → s.loader.state ≠ .loading → s.raster.deadlineFlag = true →
    s.monitor.gathering = true → s.monitor.inputs.length = 12 → (s.monitor.get i).divider ≤ (s.monitor.get i).leakDivider →
    let r := s.monitor.get i
    let tick : Bool := 1 ≤ s.monitor.period ∧ s.monitor.period ≤ s.monitor.primary + 1
    let due : Bool := tick ∧ r.divider = r.leakDivider
    let c1 := if due then r.count - 1 else r.count
    ∃ t, exec .switchPoint s = .next t ∧
      (t.monitor.get i).count = (if r.substitutionSeen ∨ r.checkFailureSeen ∨ r.absenceSeen then min 255 (c1 + 1) else c1) ∧
      (t.monitor.get i).divider = (if due then 0 else if tick then r.divider + 1 else r.divider) ∧
      t.monitor.primary = (if s.monitor.period = 0 ∨ tick then 0 else s.monitor.primary + 1))

/-- PEER_EXPIRY of an entry whose age has reached 24: the entry is removed and every other entry stays; a lever owner that expires
is owner no longer, and the lever is then disengaged with its position absent; its queued entries stay (R41, R156, R167). In
LISTENING and BARRED the entry is removed so, and nothing else changes (R163, R167). DUPLICATE_FLAG_CLEAR at a quiet count of 24
clears the flag alone, the count staying at 24 (R168; that the count stays is deduced, log entry 18); below 24 nothing changes.
STANDING_REPEAT in RUNNING at a repeat count of 8 makes STANDING pending, with the renewed mark when an attempt of STANDING is in
progress, and returns the count to 0; below 8 nothing changes (R137, R177). That the three rows alone take these steps is the
model's choice, log entry 6. -/
def Obligations.PeerCountsActAtTheirLimits : Prop :=
  (∀ (s : State) (p : Station), Running s → OwnerSound s →
    s.peers.entries.Pairwise (fun a b => a.station < b.station) →
    (∃ e ∈ s.peers.entries, e.station = p ∧ 24 ≤ e.age) →
    ∃ t, exec (.peerExpiry p) s = .next t ∧
      t.peers = { s.peers with entries := s.peers.entries.filter fun e => e.station != p } ∧
      t.intake.leverOwner ≠ some p ∧ t.intake.queue = s.intake.queue ∧
      (s.intake.leverOwner ≠ some p → t.intake = s.intake ∧ t.engine = s.engine) ∧
      (s.intake.leverOwner = some p → t.engine = { s.engine with engaged := false, latest := none }) ∧
      t = ((s.setPeers t.peers).setIntake { s.intake with leverOwner := t.intake.leverOwner }).setEngine t.engine) ∧
  (∀ (s : State) (p : Station), Released s → s.loader.state ≠ .running →
    s.peers.entries.Pairwise (fun a b => a.station < b.station) →
    (∃ e ∈ s.peers.entries, e.station = p ∧ 24 ≤ e.age) →
    exec (.peerExpiry p) s = .next (s.setPeers { s.peers with entries := s.peers.entries.filter fun e => e.station != p })) ∧
  (∀ s : State, Released s →
      (24 ≤ s.peers.quiet → exec .duplicateFlagClear s = .next (s.setPeers { s.peers with duplicate := false })) ∧
      (s.peers.quiet < 24 → exec .duplicateFlagClear s = .next s)) ∧
  (∀ s : State, Running s →
      (8 ≤ s.peers.repeatCount → ∃ t, exec .standingRepeat s = .next t ∧
        t.port.standingPending = true ∧ t.peers = { s.peers with repeatCount := 0 } ∧
        ((∃ a, s.port.attempt = some a ∧ a.slot = .standing) → t.port.standingRenewed = true) ∧
        ((∀ a, s.port.attempt = some a → a.slot ≠ .standing) → t.port.standingRenewed = s.port.standingRenewed) ∧
        t.port = { s.port with standingPending := true, standingRenewed := t.port.standingRenewed } ∧
        t = (s.setPort t.port).setPeers t.peers) ∧
      (s.peers.repeatCount < 8 → exec .standingRepeat s = .next s))

/-! ## The Cue Line: sending and the line state -/

/-- LINE_IDLE makes the line state IDLE and the port ready for a start bit; LINE_BUSY makes an IDLE line BUSY, which a port that
is ready takes as the start of a frame, and leaves a BUSY line as it is (R128, R138, R141). FRAME_DISCARDED changes nothing
outside the port, and in the port only the line state and the phase of reception: after a framing fault or a length above 40 it
waits for IDLE, and after a truncated frame, a frame whose check does not verify, or one whose kind or length the port does not
deliver, it is ready again; after each but the truncated one the line is BUSY, and the truncated one, which an IDLE ends, leaves
the line state (log entry 15); a frame that does arrive is not discarded (R138, R139). While it waits for IDLE nothing is
assembled, so nothing is discarded and no arrival has any effect (R138, R141). -/
def Obligations.LineStateFollowsTheLine : Prop :=
  ∀ s : State, Released s →
    exec .lineIdle s = .next (s.setPort { s.port with lineState := .idle, rx := .ready }) ∧
    (s.port.lineState = .idle → ∃ t, exec .lineBusy s = .next t ∧
      t = s.setPort { s.port with lineState := .busy, rx := t.port.rx } ∧
      (s.port.rx = .ready → t.port.rx = .assembling) ∧ (s.port.rx ≠ .ready → t.port.rx = s.port.rx)) ∧
    (s.port.lineState = .busy → exec .lineBusy s = .next s) ∧
    (s.port.rx ≠ .waitIdle → ∀ bytes : List Byte,
      let phase := fun (ending : AssemblyEnd) (l : LineState) (x : RxState) =>
        exec (.frameDiscarded bytes ending) s = .next (s.setPort { s.port with lineState := l, rx := x })
      let kind := (bytes.getD 1 0).toNat / 16
      let len := (bytes.getD 2 0).toNat
      let delivered := (kind ∈ [1, 4, 6, 9] ∧ len = 1) ∨ (kind ∈ [2, 3, 5] ∧ len = 2) ∨ (kind = 7 ∧ 2 ≤ len ∧ len ≤ 21) ∨
        (kind = 8 ∧ 3 ≤ len ∧ len ≤ 20) ∨ (kind = 12 ∧ len = 29) ∨ (kind = 13 ∧ len = 3)
      phase .framingFault .busy .waitIdle ∧
      (3 ≤ bytes.length → 40 < len → phase .overlong .busy .waitIdle) ∧
      phase .truncated s.port.lineState .ready ∧
      (∀ body c0 c1, bytes = body ++ [c0, c1] → body.length = 3 + len → len ≤ 40 →
        (c0.toNat * 256 + c1.toNat ≠ (frameCheck body).toNat ∨ ¬ delivered → phase .checked .busy .ready) ∧
        (c0.toNat * 256 + c1.toNat = (frameCheck body).toNat → delivered →
          exec (.frameDiscarded bytes .checked) s = .next s))) ∧
    (s.port.rx = .waitIdle →
      (∀ bytes ending, exec (.frameDiscarded bytes ending) s = .next s) ∧
      ∀ (h : Header) (b0 b1 b2 : Byte) (p7 p8 p12 : List Byte), ∀ c ∈ arrivalsFrom h b0 b1 b2 p7 p8 p12, exec c s = .next s)

/-- ATTEMPT_BEGINS under the conditions of R131: a pending STANDING goes before every refusal and clears the renewed mark, and its
frame has the header and the check of R129 and R142 and the payload of the state at that moment (R137, R143); otherwise the oldest
refusal goes, with the frame of R144; the attempt records the field in which it began. The line the attempt drives is BUSY and the
port assembles the frame on it (R132, R138; log entry 14). An attempt does not begin outside RUNNING, on a BUSY line, while
another is in progress, with the budget spent, or with nothing pending (R131, R135). -/
def Obligations.AttemptSendsStandingBeforeRefusals : Prop :=
  (∀ s : State, Running s → s.port.lineState = .idle → s.port.attempt = none → s.port.budgetCount < 4 →
      (s.port.standingPending = true → ∃ t a, exec .attemptBegins s = .next t ∧
        t = s.setPort { s.port with lineState := .busy, rx := .assembling, standingRenewed := false, attempt := some a } ∧
        a.slot = .standing ∧ a.field = s.raster.field ∧ a.passedByte0 = false ∧
        (let body := BitVec.ofNat 8 (192 + 4 * s.loader.station.val) :: BitVec.ofNat 8 (12 * 16 + s.loader.station.val) :: 29#8 :: standingPayload s
         a.frame = body ++ bytes16 (frameCheck body).toNat)) ∧
      (∀ r rest, s.port.standingPending = false → s.port.refusals = r :: rest → ∃ t a, exec .attemptBegins s = .next t ∧
        t = s.setPort { s.port with lineState := .busy, rx := .assembling, attempt := some a } ∧
        a.slot = .refusal ∧ a.field = s.raster.field ∧ a.passedByte0 = false ∧
        (let body := [BitVec.ofNat 8 (192 + 4 * s.loader.station.val), BitVec.ofNat 8 (13 * 16 + r.target.val), 3#8,
           BitVec.ofNat 8 (kindCode r.kind), BitVec.ofNat 8 (reasonCode r.reason), r.detail]
         a.frame = body ++ bytes16 (frameCheck body).toNat))) ∧
  (∀ s : State,
      (s.loader.state ≠ .running ∨ s.port.lineState = .busy ∨ s.port.attempt ≠ none ∨ 4 ≤ s.port.budgetCount ∨
        (s.port.standingPending = false ∧ s.port.refusals = [])) →
      exec .attemptBegins s = .next s)

/-- What a STANDING says, byte by byte (R143): the programme source number, link group, FINAL flag, reference state of the field,
config-default, duplicate and no-final flags, engine state and transition type, progress, effective PGM and PST, the four layer
states, the lever owner, both source sets with one bit a source, and the twelve health states. That the bits which the table does
not list, and the owner's number without an owner, are 0 is the model's choice (log entries 41 and 42). A WV-612 that receives it
reads back the programme source number, the link group, the FINAL flag and both source sets that the sender's state held. -/
def Obligations.StandingCarriesTheSets : Prop :=
  ∀ (s : State) (p : Source), s.crosspoint.programme = some p →
    (standingPayload s).length = 29 ∧
    mixFieldsOf (standingPayload s) =
      { programme := p, linkGroup := s.intake.linkGroup, final := s.loader.final, contribution := s.sets.contribution,
        next := s.sets.next } ∧
    (let b := fun i => ((standingPayload s).getD i 0).toNat
     let flag := fun (x : Bool) => if x = true then 1 else 0
     let layer := fun (l : Layer) =>
       match (s.keys.get l).state with
       | .off => 0
       | .rising => 1
       | .on => 2
       | .falling => 3
     b 0 % 64 = p.val ∧
     (b 1 / 64 = s.intake.linkGroup.val ∧ b 1 / 32 % 2 = flag s.loader.final ∧
       (b 1 / 8 % 4 = match s.peers.announced.refState with
         | .free => 0
         | .realign => 1
         | .locked => 2) ∧
       b 1 / 4 % 2 = flag s.loader.configDefault ∧ b 1 / 2 % 2 = flag s.peers.duplicate ∧ b 1 % 2 = flag s.tally.noFinal) ∧
     b 2 = 0 ∧
     ((b 3 / 16 % 4 = match s.engine.state with
         | .idle => 0
         | .auto => 1
         | .lever => 2) ∧
       (b 3 % 2 = match s.engine.settings.type with
         | .mix => 0
         | .wipe => 1)) ∧
     (s.engine.progress ≤ 1024 → b 4 * 256 + b 5 = s.engine.progress) ∧
     b 6 = s.crosspoint.buses.pgm.effective.val ∧ b 7 = s.crosspoint.buses.pst.effective.val ∧
     (b 8 % 4 = layer .l1 ∧ b 8 / 4 % 4 = layer .l2 ∧ b 8 / 16 % 4 = layer .l3 ∧ b 8 / 64 = layer .l4) ∧
     (s.intake.leverOwner = none → b 9 / 128 = 0 ∧ b 9 % 16 = 0) ∧
     (∀ q, s.intake.leverOwner = some q → b 9 / 128 = 1 ∧ b 9 % 16 = q.val) ∧
     (∀ n : Source, (b (17 - n.val / 8)).testBit (n.val % 8) = setHas s.sets.contribution n ∧
       (b (25 - n.val / 8)).testBit (n.val % 8) = setHas s.sets.next n) ∧
     (s.monitor.inputs.length = 12 → ∀ i : InputNo,
       b (28 - i.val / 4) / 4 ^ (i.val % 4) % 4 = match (s.monitor.get i).health with
         | .clean => 0
         | .suspect => 1
         | .faulty => 2
         | .failed => 3) ∧
     (b 0 / 64 = 0 ∧ b 3 / 64 = 0 ∧ b 3 / 2 % 8 = 0 ∧ b 9 / 16 % 8 = 0))

/-- ARBITRATION_LOSS in byte 0 releases the line, and the port goes on assembling the frame on it: no count is charged and the
frame stays pending (R132). ATTEMPT_PASSES_BYTE_0 raises the budget count when the attempt began in the budget field, and leaves
it when it began in an earlier field (R135). TRANSMIT_ERROR abandons the attempt, keeps the budget spent, and raises its frame's
error count; at 3 a refusal is removed from the head of its queue, and STANDING returns to a count of 0 and stays pending only if
it was renewed (R133; that the renewed mark is then clear is deduced, log entry 16). FRAME_DROPPED: a STANDING whose error count
is 3 leaves the slot unless it was renewed, a refusal whose count is 3 leaves the head of the queue, and with no such frame
nothing changes (R133; log entries 6 and 16). ATTEMPT_COMPLETES: a completed STANDING clears its error count and its pending mark,
or keeps the mark and clears the renewed mark when that is set; a completed refusal leaves the head of its queue (R134). -/
def Obligations.AttemptsEndAsTheLineDecides : Prop :=
  (∀ (s : State) (a : Attempt), Released s → s.port.attempt = some a → a.passedByte0 = false →
      exec .arbitrationLoss s = .next (s.setPort { s.port with attempt := none }) ∧
      (a.field = s.port.budgetField → exec .attemptPassesByte0 s = .next (s.setPort
        { s.port with attempt := some { a with passedByte0 := true }, budgetCount := s.port.budgetCount + 1 })) ∧
      (a.field ≠ s.port.budgetField → exec .attemptPassesByte0 s = .next (s.setPort
        { s.port with attempt := some { a with passedByte0 := true } }))) ∧
  (∀ (s : State) (a : Attempt), Released s → PortSound s → s.port.attempt = some a →
      (a.slot = .standing → s.port.standingErrors < 2 → exec .transmitError s = .next (s.setPort
        { s.port with attempt := none, standingErrors := s.port.standingErrors + 1 })) ∧
      (a.slot = .standing → s.port.standingErrors = 2 → exec .transmitError s = .next (s.setPort
        { s.port with attempt := none, standingErrors := 0, standingPending := s.port.standingRenewed, standingRenewed := false })) ∧
      (∀ r rest, a.slot = .refusal → s.port.refusals = r :: rest → r.errors < 2 → exec .transmitError s = .next (s.setPort
        { s.port with attempt := none, refusals := { r with errors := r.errors + 1 } :: rest })) ∧
      (∀ r rest, a.slot = .refusal → s.port.refusals = r :: rest → r.errors = 2 → exec .transmitError s = .next (s.setPort
        { s.port with attempt := none, refusals := rest }))) ∧
  (∀ s : State, Released s →
      (3 ≤ s.port.standingErrors → s.port.refusals = [] → exec .frameDropped s = .next (s.setPort
        { s.port with standingErrors := 0, standingPending := s.port.standingRenewed, standingRenewed := false })) ∧
      (∀ r rest, s.port.standingErrors < 3 → s.port.refusals = r :: rest → 3 ≤ r.errors →
        exec .frameDropped s = .next (s.setPort { s.port with refusals := rest })) ∧
      (s.port.standingErrors < 3 → (∀ r ∈ s.port.refusals, r.errors < 3) → exec .frameDropped s = .next s)) ∧
  (∀ (s : State) (a : Attempt), Released s → s.port.attempt = some a → a.passedByte0 = true →
      (a.slot = .standing → exec .attemptCompletes s = .next (s.setPort
        { s.port with attempt := none, rx := .ready, standingErrors := 0, standingPending := s.port.standingRenewed,
                      standingRenewed := false })) ∧
      (∀ r rest, a.slot = .refusal → s.port.refusals = r :: rest → exec .attemptCompletes s = .next (s.setPort
        { s.port with attempt := none, rx := .ready, refusals := rest })))

/-! ## Arrivals at the Peer View -/

/-- DELEGATE_ARRIVAL from another station: its PANEL entry holds the named station when bit 7 is set and no delegation when it is
clear, at age 0; every other entry stands; under FIXED in RUNNING the lowest-numbered live delegated FULL panel owns the lever, a
change of owner disengages it, and nothing else changes (R41, R147, R154, R165). STANDING_ARRIVAL from another station: its entry
is a MIX entry with the frame's programme source number, link group, FINAL flag and sets, at age 0, whatever kind it was; every
other entry stands; a panel that held the lever holds it no longer, and nothing else changes (R41, R156, R165, R166).
REFUSAL_ARRIVAL from another station: an entry it has returns to age 0 with its kind and fields, and a station without one gets a
PANEL entry with no delegation; nothing is read from the payload and nothing else changes (R144, R165). -/
def Obligations.HeardFramesAreRecorded : Prop :=
  (∀ (s : State) (h : Header) (b0 : Byte), Heard s h.sender →
    s.peers.entries.Pairwise (fun a b => a.station < b.station) →
    ∃ t, exec (.delegateArrival h b0) s = .next t ∧
      (∃ d, t.peers.find h.sender = some { station := h.sender, age := 0, kind := .panel d } ∧
        (b0.getLsbD 7 = false → d = none) ∧ (b0.getLsbD 7 = true → ∃ p, d = some p ∧ p.val = b0.toNat % 16)) ∧
      (∀ p, p ≠ h.sender → t.peers.find p = s.peers.find p) ∧
      t.peers = { s.peers with entries := t.peers.entries } ∧
      (s.loader.state = .running → s.intake.leverPolicy = .fixed → t.intake.leverOwner = t.lowestOwner) ∧
      (s.loader.state ≠ .running → t.intake = s.intake ∧ t.engine = s.engine) ∧
      (t.intake.leverOwner = s.intake.leverOwner → t.engine = s.engine) ∧
      (t.intake.leverOwner ≠ s.intake.leverOwner → t.engine = { s.engine with engaged := false, latest := none }) ∧
      t = ((((arrivedState s).setPeers t.peers).setIntake
        { s.intake with leverOwner := t.intake.leverOwner }).setEngine t.engine)) ∧
  (∀ (s : State) (h : Header) (payload : List Byte), Heard s h.sender → payload.length = 29 →
    s.peers.entries.Pairwise (fun a b => a.station < b.station) →
    ∃ t, exec (.standingArrival h payload) s = .next t ∧
      t.peers.find h.sender = some { station := h.sender, age := 0, kind := .mix (mixFieldsOf payload) } ∧
      (∀ p, p ≠ h.sender → t.peers.find p = s.peers.find p) ∧
      t.peers = { s.peers with entries := t.peers.entries } ∧
      (s.loader.state = .running → t.intake.leverOwner ≠ some h.sender) ∧
      (s.loader.state ≠ .running → t.intake = s.intake ∧ t.engine = s.engine) ∧
      (t.intake.leverOwner = s.intake.leverOwner → t.engine = s.engine) ∧
      (t.intake.leverOwner ≠ s.intake.leverOwner → t.engine = { s.engine with engaged := false, latest := none }) ∧
      t = ((((arrivedState s).setPeers t.peers).setIntake
        { s.intake with leverOwner := t.intake.leverOwner }).setEngine t.engine)) ∧
  (∀ (s : State) (h : Header) (b0 b1 b2 : Byte), Heard s h.sender →
    s.peers.entries.Pairwise (fun a b => a.station < b.station) →
    ∃ t, exec (.refusalArrival h b0 b1 b2) s = .next t ∧
      (∀ e, s.peers.find h.sender = some e → t.peers.find h.sender = some { e with age := 0 }) ∧
      (s.peers.find h.sender = none →
        t.peers.find h.sender = some { station := h.sender, age := 0, kind := .panel none }) ∧
      (∀ p, p ≠ h.sender → t.peers.find p = s.peers.find p) ∧
      t = (arrivedState s).setPeers { s.peers with entries := t.peers.entries })

/-- An arrival with this station's own number as sender makes no entry and queues nothing: in LISTENING it bars the station, in
RUNNING it sets the duplicate flag with a quiet count of 0, and in BARRED it does nothing (R168, R181). In LOADING the port
delivers no frame: an arrival of any kind changes nothing but the phase of reception (R140). In LISTENING and BARRED a panel
command is discarded: nothing changes but its sender's entry (R163). -/
def Obligations.DuplicateAndOutsideArrivalsQueueNothing : Prop :=
  (∀ (s : State) (h : Header) (b0 b1 b2 : Byte) (p7 p8 p12 : List Byte), Receiving s →
    2 ≤ p7.length → p7.length ≤ 21 → 3 ≤ p8.length → p8.length ≤ 20 → p12.length = 29 →
    ∀ c ∈ arrivalsFrom h b0 b1 b2 p7 p8 p12,
      (h.sender = s.loader.station → s.loader.state = .listening →
        exec c s = .next ((arrivedState s).setLoader { s.loader with state := .barred })) ∧
      (h.sender = s.loader.station → s.loader.state = .running →
        exec c s = .next ((arrivedState s).setPeers { s.peers with duplicate := true, quiet := 0 })) ∧
      (h.sender = s.loader.station → s.loader.state = .barred → exec c s = .next (arrivedState s)) ∧
      (s.loader.state = .loading → exec c s = .next (arrivedState s))) ∧
  (∀ (s : State) (h : Header) (b0 b1 : Byte) (p7 p8 : List Byte), Heard s h.sender → s.loader.state ≠ .running →
      2 ≤ p7.length → p7.length ≤ 21 → 3 ≤ p8.length → p8.length ≤ 20 →
      ∀ c parsed kind detail, (c, parsed, kind, detail) ∈ panelCommands h b0 b1 p7 p8 →
        exec c s = .next (heardState s h.sender))

/-! ## Panel commands at Control Intake -/

/-- What every panel command's payload stands for. TRANSET and KEYSET: the fields whose mask bits are set follow the mask in
order, each at the sum of the sizes of those before it; a length that disagrees with the mask, or a layer or code outside its
coding, is BAD_VALUE; and every other value, a LEVER's position among them, is clamped into its range and not refused (R145, R151,
R152). PICK, TAKE, KEYTAKE, NEXTSEL and RESTORE: the bus and source, the mode, the layer and mode, the background flag and key
mask, and the input that the bytes code; a bus above 9, a mode above 1, a layer outside 1..4 and an input above 11 are BAD_VALUE,
and the bits that are not examined do not count (R142, R151). -/
def Obligations.SettingsFramesAreReadAndClamped : Prop :=
  (∀ (m0 m1 : Byte) (body : List Byte),
    let mask := m0.toNat * 256 + m1.toNat
    let v := fieldValue [1, 2, 1, 1, 2, 2, 2, 2, 2, 2, 2] mask body
    (body.length ≠ fieldOffset [1, 2, 1, 1, 2, 2, 2, 2, 2, 2, 2] mask 11 → transetAction (m0 :: m1 :: body) = none) ∧
    (body.length = fieldOffset [1, 2, 1, 1, 2, 2, 2, 2, 2, 2, 2] mask 11 →
      ((∃ n, v 0 = some n ∧ 1 < n) ∨ (∃ n, v 2 = some n ∧ 3 < n) ∨ (∃ n, v 3 = some n ∧ 2 < n) →
        transetAction (m0 :: m1 :: body) = none) ∧
      ((∀ n, v 0 = some n → n ≤ 1) → (∀ n, v 2 = some n → n ≤ 3) → (∀ n, v 3 = some n → n ≤ 2) →
        transetAction (m0 :: m1 :: body) = some (.transet
          { type := (v 0).map fun n => if n = 0 then .mix else .wipe, rate := (v 1).map fun n => max 1 (min 999 n),
            pattern := (v 2).map fun n => if n = 0 then .horizontal else if n = 1 then .vertical else if n = 2 then .box else .diamond,
            mode := (v 3).map fun n => if n = 0 then .normal else if n = 1 then .reverse else .alternate, cx := (v 4).map (min 1023), cy := (v 5).map (min 1023),
            softness := (v 6).map (min 255), borderWidth := (v 7).map (min 255), borderY := (v 8).map (BitVec.ofNat 10),
            borderCb := (v 9).map (BitVec.ofNat 10), borderCr := (v 10).map (BitVec.ofNat 10) })))) ∧
  (∀ (b0 m0 m1 : Byte) (body : List Byte),
    let mask := m0.toNat * 256 + m1.toNat
    let v := fieldValue [1, 2, 1, 1, 2, 1, 2, 2, 2, 2, 1] mask body
    (body.length ≠ fieldOffset [1, 2, 1, 1, 2, 1, 2, 2, 2, 2, 1] mask 11 → keysetAction (b0 :: m0 :: m1 :: body) = none) ∧
    (b0.toNat = 0 ∨ 4 < b0.toNat → keysetAction (b0 :: m0 :: m1 :: body) = none) ∧
    (body.length = fieldOffset [1, 2, 1, 1, 2, 1, 2, 2, 2, 2, 1] mask 11 →
      ((∃ n, v 0 = some n ∧ 1 < n) ∨ (∃ n, v 5 = some n ∧ 2 < n) ∨ (∃ n, v 10 = some n ∧ (n = 0 ∨ 4 < n)) →
        keysetAction (b0 :: m0 :: m1 :: body) = none) ∧
      (∀ layer, layerOfNat b0.toNat = some layer → (∀ n, v 0 = some n → n ≤ 1) → (∀ n, v 5 = some n → n ≤ 2) →
        (∀ n, v 10 = some n → 1 ≤ n ∧ n ≤ 4) →
        keysetAction (b0 :: m0 :: m1 :: body) = some (.keyset layer
          { type := (v 0).map fun n => if n = 0 then .luma else .linear, clip := (v 1).map (min 876), gain := (v 2).map (max 1),
            invert := (v 3).map fun n => decide (n % 2 = 1), rate := (v 4).map fun n => max 1 (min 999 n),
            maskMode := (v 5).map fun n => if n = 0 then .none else if n = 1 then .inside else .outside, left := (v 6).map (min 4095), top := (v 7).map (min 4095),
            width := (v 8).map (min 4095), height := (v 9).map (min 4095), stackPosition := v 10 })))) ∧
  (∀ b0 b1 : Byte, leverAction b0 b1 = some (.lever (min 1024 (b0.toNat * 256 + b1.toNat)))) ∧
  (∀ b0 b1 : Byte,
    pickAction b0 b1 = (([.pgm, .pst, .k1f, .k1s, .k2f, .k2s, .k3f, .k3s, .k4f, .k4s] : List Bus)[b0.toNat]?).map
      (fun bus => .select bus (Fin.ofNat 64 b1.toNat)) ∧
    (b0.toNat = 0 → takeAction b0 = some (.take .cut)) ∧ (b0.toNat = 1 → takeAction b0 = some (.take .auto)) ∧
    (1 < b0.toNat → takeAction b0 = none) ∧
    (b0.toNat = 0 ∨ 4 < b0.toNat ∨ 1 < b1.toNat → keytakeAction b0 b1 = none) ∧
    (∀ l, ([.l1, .l2, .l3, .l4] : List Layer)[b0.toNat - 1]? = some l → 1 ≤ b0.toNat →
      (b1.toNat = 0 → keytakeAction b0 b1 = some (.keytake l .cut)) ∧
      (b1.toNat = 1 → keytakeAction b0 b1 = some (.keytake l .mix))) ∧
    nextselAction b0 = some (.nextsel { background := b0.toNat.testBit 4, mask1 := b0.toNat.testBit 0, mask2 := b0.toNat.testBit 1,
                                        mask3 := b0.toNat.testBit 2, mask4 := b0.toNat.testBit 3 }) ∧
    (∀ i : InputNo, b0.toNat = i.val → restoreAction b0 = some (.restore i)) ∧ (11 < b0.toNat → restoreAction b0 = none))

/-- A panel command other than LEVER from a panel delegated here whose class allows it joins the queue: an entry with its
coalescing key is removed wherever it stands, and the new entry is appended, due at the next switch point when the deadline flag
is clear and at the one after when it is set; nothing else changes but the sender's entry (R148, R157 to R159). -/
def Obligations.AcceptedCommandsJoinTheQueue : Prop :=
  ∀ (s : State) (h : Header) (b0 b1 : Byte) (p7 p8 : List Byte) (a : Action) (c : Instr) (kind : FrameKind) (detail : Byte),
    Addressed s h → 2 ≤ p7.length → p7.length ≤ 21 → 3 ≤ p8.length → p8.length ≤ 20 →
    (c, some a, kind, detail) ∈ panelCommands h b0 b1 p7 p8 → kind ≠ .lever →
    s.delegatedHere h.sender = true → (s.intake.permission h.sender).allows a = true →
    ((∃ e ∈ s.intake.queue, e.action.key ≠ none ∧ e.action.key = a.key) ∨ s.intake.queue.length < 16) →
    exec c s = .next ((heardState s h.sender).setIntake { s.intake with
      queue := (s.intake.queue.filter fun e => !(e.action.key.isSome && e.action.key == a.key)) ++
        [{ action := a, sender := h.sender, due := s.raster.field + (if s.raster.deadlineFlag then 2 else 1) }] })

/-- LEVER from a panel delegated here with FULL permission, the queue having room: it joins when its sender owns the lever; under
FIXED one from any other panel is discarded; under LATEST it makes its sender the owner, which disengages the lever (R41, R154,
R155, R159). -/
def Obligations.LeverFramesFollowThePolicy : Prop :=
  ∀ (s : State) (h : Header) (b0 b1 : Byte), Addressed s h → s.delegatedHere h.sender = true →
    s.intake.permission h.sender = .full →
    ((∃ e ∈ s.intake.queue, e.action.key = some .lever) ∨ s.intake.queue.length < 16) →
    let queue := (s.intake.queue.filter fun e => !(e.action.key == some .lever)) ++
      [{ action := .lever (min 1024 (b0.toNat * 256 + b1.toNat)), sender := h.sender,
         due := s.raster.field + (if s.raster.deadlineFlag then 2 else 1) : Entry }]
    (s.intake.leverOwner = some h.sender →
      exec (.leverArrival h b0 b1) s = .next ((heardState s h.sender).setIntake { s.intake with queue := queue })) ∧
    (s.intake.leverOwner ≠ some h.sender → s.intake.leverPolicy = .fixed →
      exec (.leverArrival h b0 b1) s = .next (heardState s h.sender)) ∧
    (s.intake.leverOwner ≠ some h.sender → s.intake.leverPolicy = .latest →
      exec (.leverArrival h b0 b1) s = .next (((heardState s h.sender).setIntake
        { s.intake with queue := queue, leverOwner := some h.sender }).setEngine
          { s.engine with engaged := false, latest := none }))

/-- The refusals decided at arrival, in their order: NOT_DELEGATED for a sender not delegated here, then BAD_VALUE for values R151
refuses, then RESTRICTED for a class that does not allow the command; the record joins the port's queue when it holds fewer than
4, and nothing else changes but the sender's entry (R136, R148, R149, R151, R153, R162). The permission table: FULL allows every
panel command, LIMITED every one but PICK onto PGM, LEVER, TAKE, KEYTAKE and RESTORE, and WATCH none (R153). -/
def Obligations.RefusalsAtArrivalComeInOrder : Prop :=
  (∀ (s : State) (h : Header) (b0 b1 : Byte) (p7 p8 : List Byte) (c : Instr) (parsed : Option Action) (kind : FrameKind) (detail : Byte),
    Addressed s h → 2 ≤ p7.length → p7.length ≤ 21 → 3 ≤ p8.length → p8.length ≤ 20 →
    (c, parsed, kind, detail) ∈ panelCommands h b0 b1 p7 p8 →
    let refused := fun (reason : Reason) => exec c s = .next ((heardState s h.sender).setPort
      { s.port with
        lineState := .busy, rx := .ready,
        refusals := if s.port.refusals.length < 4 then
            s.port.refusals ++ [{ target := h.sender, kind := kind, reason := reason, detail := detail, errors := 0 }]
          else s.port.refusals })
    (s.delegatedHere h.sender = false → refused .notDelegated) ∧
    (s.delegatedHere h.sender = true → parsed = none → refused .badValue) ∧
    (∀ a, s.delegatedHere h.sender = true → parsed = some a → (s.intake.permission h.sender).allows a = false →
      refused .restricted)) ∧
  (∀ a : Action,
    Permission.full.allows a = true ∧ Permission.watch.allows a = false ∧
    (Permission.limited.allows a = true ↔
      (∃ bus n, a = .select bus n ∧ bus ≠ .pgm) ∨ (∃ n, a = .nextsel n) ∨ (∃ f, a = .transet f) ∨ (∃ l f, a = .keyset l f)))

/-- A full queue refuses, with QUEUE_FULL, every accepted command whose coalescing key has nothing waiting, and keeps its entries
(R159). A LEVER is accepted here when its sender is the owner under FIXED; for a LEVER under LATEST, that the owner stands is
deduced, log entry 34, and is not stated here. -/
def Obligations.FullQueueRefuses : Prop :=
  ∀ (s : State) (h : Header) (b0 b1 : Byte) (p7 p8 : List Byte) (a : Action) (c : Instr) (kind : FrameKind) (detail : Byte),
    Addressed s h → 2 ≤ p7.length → p7.length ≤ 21 → 3 ≤ p8.length → p8.length ≤ 20 →
    (c, some a, kind, detail) ∈ panelCommands h b0 b1 p7 p8 →
    (kind = .lever → s.intake.leverPolicy = .fixed ∧ s.intake.leverOwner = some h.sender) →
    s.delegatedHere h.sender = true → (s.intake.permission h.sender).allows a = true →
    s.intake.queue.length = 16 → (∀ e ∈ s.intake.queue, e.action.key = none ∨ e.action.key ≠ a.key) →
    exec c s = .next ((heardState s h.sender).setPort
      { s.port with
        lineState := .busy, rx := .ready,
        refusals := if s.port.refusals.length < 4 then
            s.port.refusals ++ [{ target := h.sender, kind := kind, reason := .queueFull, detail := detail, errors := 0 }]
          else s.port.refusals })

/-- A TAKE for another station of the same link group, from a live panel delegated there whose class here is FULL, joins this
station's queue as a link take; when one of these conditions fails, and for any other command targeted elsewhere, the frame is
discarded without a refusal (R148, R150). -/
def Obligations.LinkTakesAreFollowed : Prop :=
  ∀ (s : State) (h : Header) (b0 b1 : Byte) (p7 p8 : List Byte),
    Receiving s → s.loader.state = .running → h.sender ≠ s.loader.station → h.target ≠ s.loader.station → h.sender ≠ h.target →
    2 ≤ p7.length → p7.length ≤ 21 → 3 ≤ p8.length → p8.length ≤ 20 →
    let linked := s.intake.linkGroup ≠ 0 ∧
      (∃ e m, s.peers.find h.target = some e ∧ e.kind = .mix m ∧ m.linkGroup = s.intake.linkGroup) ∧
      (∃ e, s.peers.find h.sender = some e ∧ e.kind = .panel (some h.target)) ∧ s.intake.permission h.sender = .full
    (∀ m, takeModeOf b0.toNat = some m → linked → s.intake.queue.length < 16 →
      exec (.takeArrival h b0) s = .next ((heardState s h.sender).setIntake { s.intake with
        queue := s.intake.queue ++
          [{ action := .take m, sender := h.sender, due := s.raster.field + (if s.raster.deadlineFlag then 2 else 1) }] })) ∧
    (¬ linked ∨ 1 < b0.toNat → exec (.takeArrival h b0) s = .next (heardState s h.sender)) ∧
    (∀ c parsed kind detail, (c, parsed, kind, detail) ∈ panelCommands h b0 b1 p7 p8 → kind ≠ .take →
      exec c s = .next (heardState s h.sender))

/-! ## Entries at a switch point -/

/-- A switch point in RUNNING leaves in the queue, of the entries due there, deferred TRANSET, NEXTSEL and KEYSET entries alone,
in their order at the head, followed by the entries not yet due in their own order (R160, R161). Each kind goes to its owner:
SELECT to the Crosspoint Resolver, TAKE, LEVER, TRANSET and NEXTSEL to the Transition Engine, KEYTAKE and KEYSET to the Key Layer
Unit, RESTORE to the Monitor (R160). Where one entry is due, none expires and no cycle is broken, its owner answers on the state
that the advances have left, which for an engine at rest with no lever position and no layer moving has the engine, the layers and
the buses as they stood: an applied entry leaves the queue with its effect, a refused one leaves it with a REFUSAL to its sender
alone, and a deferred one stays (R160, R162). -/
def Obligations.OfferedEntriesLeaveOrAreDeferred : Prop :=
  (∀ s : State, Running s → s.raster.deadlineFlag = true →
    ∃ t deferred, exec .switchPoint s = .next t ∧
      t.intake.queue = deferred ++ s.intake.queue.filter (fun e => decide (s.raster.field + 1 < e.due)) ∧
      deferred.Sublist (s.intake.queue.filter fun e => decide (e.due ≤ s.raster.field + 1)) ∧
      ∀ e ∈ deferred, (∃ f, e.action = .transet f) ∨ (∃ n, e.action = .nextsel n) ∨ (∃ l f, e.action = .keyset l f)) ∧
  (∀ (s : State) (p : Station) (due : Nat),
    let offered := fun a => offer { action := a, sender := p, due := due } s
    (∀ bus n, offered (.select bus n) = offerSelect p bus n s) ∧ offered (.take .cut) = offerTakeCut s ∧
    offered (.take .auto) = offerTakeAuto s ∧ (∀ position, offered (.lever position) = offerLever p position s) ∧
    (∀ f, offered (.transet f) = offerTranset f s) ∧ (∀ n, offered (.nextsel n) = offerNextsel n s) ∧
    (∀ l m, offered (.keytake l m) = offerKeytake l m s) ∧ (∀ l f, offered (.keyset l f) = offerKeyset l f s) ∧
    (∀ i, offered (.restore i) = offerRestore i s)) ∧
  (∀ (s : State) (e : Entry), Running s → s.raster.deadlineFlag = true → OwnerSound s → (∀ x ∈ s.peers.entries, x.age < 23) →
    cycleNumbers s = none → s.intake.queue = [e] → e.due ≤ s.raster.field + 1 →
    let u := advanceAll (openField (moveCounters (s.raster.runTo s.raster.switchLines) s))
    let becomes := fun (t v : State) => t.engine = v.engine ∧ t.keys = v.keys ∧ t.monitor = v.monitor ∧
      ∀ b, (t.crosspoint.buses.get b).selected = (v.crosspoint.buses.get b).selected ∧
        (t.crosspoint.buses.get b).previous = (v.crosspoint.buses.get b).previous ∧
        (t.crosspoint.buses.get b).lastSelector = (v.crosspoint.buses.get b).lastSelector
    ∃ t, exec .switchPoint s = .next t ∧
      (s.engine.state = .idle → s.engine.latest = none → (∀ l, (s.keys.get l).state = .off ∨ (s.keys.get l).state = .on) →
        u.engine = s.engine ∧ u.keys = s.keys ∧ u.crosspoint = s.crosspoint) ∧
      (∀ v, offer e u = .applied v → t.intake.queue = [] ∧ becomes t v ∧ t.port.refusals = s.port.refusals) ∧
      (∀ reason detail, offer e u = .refused reason detail → t.intake.queue = [] ∧ becomes t u ∧
        t.port.refusals = if s.port.refusals.length < 4 then
            s.port.refusals ++ [{ target := e.sender, kind := e.action.frameKind, reason := reason, detail := detail, errors := 0 }]
          else s.port.refusals) ∧
      (offer e u = .deferred → t.intake.queue = [e] ∧ becomes t u ∧ t.port.refusals = s.port.refusals))

/-- The entries that carry settings. TRANSET in IDLE: each present field replaces the engine's value, each absent one leaves it,
and the remaining rate takes the rate (R33). NEXTSEL in IDLE: the selection is replaced whole (R34). KEYSET without a stack
position, in any state: each present field replaces the layer's value, and nothing else of any layer changes (R52). In AUTO and
LEVER a TRANSET and a NEXTSEL are deferred whole; at a switch point with such an entry waiting alone, no peer expiring and no
cycle to break, an engine at rest leaves the queue empty and its settings replaced, and an AUTO run that goes on leaves the entry
waiting and the settings as they stood (R33, R34, R160). -/
def Obligations.SettingsEntriesReplaceWhatTheyCarry : Prop :=
  let settings := fun (f : TransetFields) (x : TransSettings) => ({
    type := f.type.getD x.type, rate := f.rate.getD x.rate, pattern := f.pattern.getD x.pattern, mode := f.mode.getD x.mode,
    cx := f.cx.getD x.cx, cy := f.cy.getD x.cy, softness := f.softness.getD x.softness,
    borderWidth := f.borderWidth.getD x.borderWidth,
    border := { y := f.borderY.getD x.border.y, cb := f.borderCb.getD x.border.cb, cr := f.borderCr.getD x.border.cr } } : TransSettings)
  (∀ (s : State) (f : TransetFields) (n : Selection),
    (s.engine.state = .idle →
      offerTranset f s = .applied (s.setEngine
        { s.engine with settings := settings f s.engine.settings, remaining := f.rate.getD s.engine.settings.rate }) ∧
      offerNextsel n s = .applied (s.setEngine { s.engine with selection := n })) ∧
    (s.engine.state ≠ .idle → offerTranset f s = .deferred ∧ offerNextsel n s = .deferred)) ∧
  (∀ (s : State) (l : Layer) (f : KeysetFields), f.stackPosition = none →
    ∃ t, offerKeyset l f s = .applied t ∧ t = s.setKeys t.keys ∧ t.keys.stack = s.keys.stack ∧
      (∀ x, x ≠ l → t.keys.get x = s.keys.get x) ∧
      (let k := (s.keys.get l).settings
       t.keys.get l = { s.keys.get l with settings := {
         type := f.type.getD k.type, clip := f.clip.getD k.clip, gain := f.gain.getD k.gain, invert := f.invert.getD k.invert,
         rate := f.rate.getD k.rate, maskMode := f.maskMode.getD k.maskMode, left := f.left.getD k.left, top := f.top.getD k.top,
         width := f.width.getD k.width, height := f.height.getD k.height } })) ∧
  (∀ (s : State) (e : Entry) (f : TransetFields) (n : Selection), Running s → s.raster.deadlineFlag = true → (∀ x ∈ s.peers.entries, x.age < 23) →
    cycleNumbers s = none →
    s.intake.queue = [e] → e.due ≤ s.raster.field + 1 → e.action = .transet f ∨ e.action = .nextsel n →
    ∃ t, exec .switchPoint s = .next t ∧
      (s.engine.state = .idle → s.engine.latest = none → t.intake.queue = [] ∧
        (e.action = .transet f → t.engine.settings = settings f s.engine.settings ∧ t.engine.selection = s.engine.selection) ∧
        (e.action = .nextsel n → t.engine.selection = n ∧ t.engine.settings = s.engine.settings)) ∧
      (s.engine.state = .auto → s.engine.elapsed + 1 < s.engine.remaining →
        t.intake.queue = [e] ∧ t.engine.settings = s.engine.settings ∧ t.engine.selection = s.engine.selection))

/-- An AUTO run at a switch point with no entry waiting, no peer expiring and no cycle to break: below the remaining rate the
count rises by one and the progress is p0 + floor(n (1024 − p0) / R′); at it the run completes, PGM taking the selection of PST
when the background is in the selection (R21, R22, R29). -/
def Obligations.AutoRunAdvancesToCompletion : Prop :=
  ∀ s : State, Running s → s.raster.deadlineFlag = true → s.intake.queue = [] → (∀ x ∈ s.peers.entries, x.age < 23) →
    cycleNumbers s = none →
    s.engine.state = .auto →
    ∃ t, exec .switchPoint s = .next t ∧
      (s.engine.elapsed + 1 < s.engine.remaining →
        t.engine.state = .auto ∧ t.engine.elapsed = s.engine.elapsed + 1 ∧
        t.engine.progress = s.engine.startProgress +
          (s.engine.elapsed + 1) * (1024 - s.engine.startProgress) / s.engine.remaining) ∧
      (s.engine.remaining ≤ s.engine.elapsed + 1 →
        t.engine.state = .idle ∧ t.engine.progress = 0 ∧ t.engine.elapsed = 0 ∧
        (s.engine.selection.background = true →
          t.crosspoint.buses.pgm.selected = s.crosspoint.buses.pst.selected ∧
          t.crosspoint.buses.pst.selected = s.crosspoint.buses.pgm.selected))

/-- The tally of a field: with each input named by at most one source, the line of a mapped input in RUNNING is ON-AIR when its
source is in the ON-AIR set, else PREVIEW when it is in the PREVIEW set, else DARK; the line of an unmapped input, and every line
outside RUNNING, is DARK. A source is in the ON-AIR set exactly when it is reached from the contribution set of a FINAL station,
this one or a live MIX peer, through the contribution sets of the stations whose programme numbers are reached; and in the PREVIEW
set exactly when it is not on air and is reached so from the next-contribution set of a FINAL station. With no FINAL station both
sets are empty and the no-final flag is set, and otherwise it is clear (R170 to R173). -/
def Obligations.TallyLinesFollowTheSets : Prop :=
  ∀ s : State, Released s → s.loader.state ≠ .loading → s.raster.deadlineFlag = true →
    (∀ n n' e e', s.crosspoint.entry n = some e → s.crosspoint.entry n' = some e' → e.input = e'.input → n = n') →
    ∃ t, exec .switchPoint s = .next t ∧
      (t.loader.state = .running →
        (∀ n e, s.crosspoint.entry n = some e → t.tally.lines[e.input.val]? =
          some (if setHas t.tally.onAir n then .onAir else if setHas t.tally.preview n then .preview else .dark)) ∧
        (∀ i : InputNo, (∀ n e, s.crosspoint.entry n = some e → e.input ≠ i) → t.tally.lines[i.val]? = some .dark)) ∧
      (t.loader.state ≠ .running → t.tally.lines = List.replicate 12 .dark) ∧
      (∀ n, setHas t.tally.onAir n = true ↔
        ∃ r, TallyStation t r ∧ r.final = true ∧ Reaches (Shows t) r.contribution n) ∧
      (∀ n, setHas t.tally.preview n = true ↔ setHas t.tally.onAir n = false ∧
        ∃ r, TallyStation t r ∧ r.final = true ∧ Reaches (Shows t) r.next n) ∧
      (t.tally.noFinal = false ↔ ∃ r, TallyStation t r ∧ r.final = true) ∧
      (s.loader.final = false → (∀ e ∈ t.peers.entries, ∀ m, e.kind = .mix m → m.final = false) →
        t.tally.onAir = 0#64 ∧ t.tally.preview = 0#64 ∧ t.tally.noFinal = true)

/-- The cycle test and the reversion. This station must break a cycle exactly when its own programme number is reached from its
own two sets through the announced sets of the live MIX peers of lower number, and the named numbers are its own and those of the
lower peers that it reaches and that reach it (R174). Then every bus whose selection resolves to a named number falls back to its
previous source, or to BLACK when that is named too, with previous source BLACK and no last selector, every other bus stands, and
a LOOP_BROKEN of the bus number goes to each last selector that is live, while the refusal queue has room; otherwise nothing
changes (R96, R136; that several buses are reverted in the order of their numbers is the model's choice, log entry 35; that the
previous source is taken as R96 names it, whatever it resolves to, log entry 40). A switch point in RUNNING with no entry waiting,
no peer expiring, the engine in IDLE and no lever position reverts the buses so, each resolved by the health states that the
Monitor's update there has left (R93, R96, R174). -/
def Obligations.CyclesAreBrokenByReversion : Prop :=
  (∀ (s : State) (own : Source), s.crosspoint.programme = some own →
    let reached := Reaches (LowerShows s) (s.sets.contribution ||| s.sets.next)
    (cycleNumbers s = none ↔ ¬ reached own) ∧
    ∀ named, cycleNumbers s = some named → ∀ n, n ∈ named ↔
      n = own ∨ (reached n ∧ ∃ x, LowerShows s n x ∧ Reaches (LowerShows s) x own)) ∧
  (∀ s : State, cycleNumbers s = none → breakCycle s = s) ∧
  (∀ (s : State) (named : List Source), cycleNumbers s = some named → s.port.refusals.length ≤ 4 →
    let shows := fun b => resolveSource s.crosspoint s.monitor (s.crosspoint.buses.get b).selected
    let reverted := fun (r : BusRecord) => { r with
      selected := if r.previous ∈ named then 0 else r.previous, previous := 0, lastSelector := none }
    let records := allBuses.filterMap fun b => if shows b ∈ named then
        ((s.crosspoint.buses.get b).lastSelector.filter fun p => (s.peers.find p).isSome).map fun p =>
          ({ target := p, kind := .pick, reason := .loopBroken, detail := busNumber b, errors := 0 } : RefusalRecord)
      else none
    (∀ b, (breakCycle s).crosspoint.buses.get b =
      if shows b ∈ named then reverted (s.crosspoint.buses.get b) else s.crosspoint.buses.get b) ∧
    (breakCycle s).port.refusals = (s.port.refusals ++ records).take 4 ∧
    breakCycle s = (s.setCrosspoint { s.crosspoint with buses := (breakCycle s).crosspoint.buses }).setPort
      { s.port with refusals := (breakCycle s).port.refusals }) ∧
  (∀ (s : State) (named : List Source), Running s → s.raster.deadlineFlag = true → s.intake.queue = [] →
    (∀ e ∈ s.peers.entries, e.age < 23) → s.engine.state = .idle → s.engine.latest = none →
    cycleNumbers s = some named → ∃ t, exec .switchPoint s = .next t ∧ ∀ b,
      (t.crosspoint.buses.get b).selected =
        (if resolveSource s.crosspoint t.monitor (s.crosspoint.buses.get b).selected ∈ named then
          (if (s.crosspoint.buses.get b).previous ∈ named then 0 else (s.crosspoint.buses.get b).previous)
        else (s.crosspoint.buses.get b).selected) ∧
      (t.crosspoint.buses.get b).effective = resolveSource s.crosspoint t.monitor (t.crosspoint.buses.get b).selected)

/-- The comparison of announced values at a switch point in RUNNING, over the values as they stand once every change there is
made: when any differs from the field before, STANDING is made pending and the repeat count is 0; otherwise the count rises by one
and nothing is made pending, and at 8 STANDING is made pending and the count is 0; the values are then kept for the next
comparison (R177). -/
def Obligations.StandingAnnouncesEveryChange : Prop :=
  (∀ s : State, announcedOf s =
    { engine := s.engine.state, type := s.engine.settings.type, progress := s.engine.progress,
      pgm := (s.crosspoint.buses.get .pgm).effective, pst := (s.crosspoint.buses.get .pst).effective,
      layer1 := (s.keys.get .l1).state, layer2 := (s.keys.get .l2).state, layer3 := (s.keys.get .l3).state,
      layer4 := (s.keys.get .l4).state, contribution := s.sets.contribution, next := s.sets.next,
      health := s.monitor.inputs.map fun r => r.health, refState := s.raster.refState, duplicate := s.peers.duplicate,
      noFinal := s.tally.noFinal, leverOwner := s.intake.leverOwner }) ∧
  (∀ s : State, Running s → s.raster.deadlineFlag = true → ∃ t, exec .switchPoint s = .next t ∧
    t.peers.announced = announcedOf t ∧
    (announcedOf t ≠ s.peers.announced → t.port.standingPending = true ∧ t.peers.repeatCount = 0) ∧
    (announcedOf t = s.peers.announced → s.peers.repeatCount < 7 →
      t.port.standingPending = s.port.standingPending ∧ t.port.standingRenewed = s.port.standingRenewed ∧
      t.peers.repeatCount = s.peers.repeatCount + 1) ∧
    (announcedOf t = s.peers.announced → 7 ≤ s.peers.repeatCount →
      t.port.standingPending = true ∧ t.peers.repeatCount = 0))

/-- The checks of a SELECT in their order: an UNMAPPED source is MISSING_SOURCE; the own programme source number is LOOP; the
number of a live MIX peer from whose announced sets the own number is reached, directly or through the sets of further live MIX
peers, is LOOP; and otherwise, for the number of no such peer among them, the bus takes the source, its previous source the old
selection when the source differs, its last selector the sender (R88 to R91). -/
def Obligations.SelectIsCheckedThenApplied : Prop :=
  ∀ (s : State) (sender : Station) (bus : Bus) (n own : Source), s.crosspoint.programme = some own →
    (s.crosspoint.canShow n = false → offerSelect sender bus n s = .refused .missingSource (busNumber bus)) ∧
    (s.crosspoint.canShow n = true → n = own → offerSelect sender bus n s = .refused .loop (busNumber bus)) ∧
    (s.crosspoint.canShow n = true → n ≠ own →
      (∃ e m, e ∈ s.peers.entries ∧ e.kind = .mix m ∧ m.programme = n ∧ Reaches (PeerShows s) (m.contribution ||| m.next) own) →
      offerSelect sender bus n s = .refused .loop (busNumber bus)) ∧
    (s.crosspoint.canShow n = true → n ≠ own →
      (∀ e m, e ∈ s.peers.entries → e.kind = .mix m → m.programme = n → ¬ Reaches (PeerShows s) (m.contribution ||| m.next) own) →
      ∃ t, offerSelect sender bus n s = .applied t ∧ t = s.setCrosspoint { s.crosspoint with buses := t.crosspoint.buses } ∧
        (∀ b, b ≠ bus → t.crosspoint.buses.get b = s.crosspoint.buses.get b) ∧
        (t.crosspoint.buses.get bus).lastSelector = some sender ∧ (t.crosspoint.buses.get bus).selected = n ∧
        ((s.crosspoint.buses.get bus).selected ≠ n →
          (t.crosspoint.buses.get bus).previous = (s.crosspoint.buses.get bus).selected) ∧
        ((s.crosspoint.buses.get bus).selected = n →
          (t.crosspoint.buses.get bus).previous = (s.crosspoint.buses.get bus).previous))

/-- The two cases in which a TAKE is refused, that in every other case it is applied, and that a refused TAKE is consumed with a
REFUSAL naming TAKE, the reason and a detail of 0 made pending to its sender (R26). -/
def Obligations.TakesAreRefusedInTwoCases : Prop :=
  ∀ s : State,
    (offerTakeAuto s = .refused .transitionRunning 0 ↔ s.engine.state = .auto) ∧
    (offerTakeAuto s = .refused .emptyNext 0 ↔ s.engine.state = .idle ∧ s.engine.selection.isEmpty = true) ∧
    (offerTakeCut s = .refused .emptyNext 0 ↔ s.engine.state = .idle ∧ s.engine.selection.isEmpty = true) ∧
    (¬ (s.engine.state = .idle ∧ s.engine.selection.isEmpty = true) →
      (∃ t, offerTakeCut s = .applied t ∧ t.engine.state = .idle ∧ t.engine.progress = 0) ∧
      (s.engine.state ≠ .auto → ∃ t, offerTakeAuto s = .applied t)) ∧
    (∀ (e : Entry) (m : TakeMode) (reason : Reason) (waiting : List Entry), e.action = .take m → offer e s = .refused reason 0 →
      settleAnswer e waiting s (offer e s) = (refuse e.sender .take reason 0 s, waiting))

/-- What a TAKE does when it is applied. AUTO in IDLE starts a transition of the selection: the layers of the key mask leave rest,
or turn, toward the opposite of their end states and follow the progress, no bus changes, and the run stands at count 1 and
progress floor(1024 / R), or with R = 1 has completed (R23, R24, R43). AUTO in LEVER goes on from the progress p0 with the
remaining rate R′ = max(1, ceil((1024 − p0) R / 1024)), at p0 + floor((1024 − p0) / R′), or has completed (R25). CUT in IDLE
leaves the engine in IDLE, PGM and PST exchanged when the background is in the selection, the layers of the key mask at rest
opposite to their end states, and every other layer as it stood (R27, R29, R95); CUT in AUTO and in LEVER completes the transition
(R28). -/
def Obligations.TakesStartConvertAndCut : Prop :=
  (∀ s : State, s.engine.state = .idle → s.engine.selection.isEmpty = false →
    let e := s.engine
    let rising := fun l => (s.keys.get l).state = .off ∨ (s.keys.get l).state = .falling
    (2 ≤ e.settings.rate → ∃ t, offerTakeAuto s = .applied t ∧ t = (s.setEngine t.engine).setKeys t.keys ∧
      t.engine = { e with state := .auto, progress := 1024 / e.settings.rate, startProgress := 0, elapsed := 1,
                          remaining := e.settings.rate, engaged := false } ∧
      t.keys.stack = s.keys.stack ∧
      (∀ l, e.selection.mask l = true → rising l → t.keys.get l =
        { s.keys.get l with state := .rising, level := 1024 / e.settings.rate, elapsed := 0, moving := true }) ∧
      (∀ l, e.selection.mask l = true → ¬ rising l → t.keys.get l =
        { s.keys.get l with state := .falling, level := 1024 - 1024 / e.settings.rate, elapsed := 0, moving := true }) ∧
      (∀ l, e.selection.mask l = false → (s.keys.get l).moving = false → t.keys.get l = s.keys.get l)) ∧
    ((∀ l, (s.keys.get l).moving = false) → ∃ t, offerTakeCut s = .applied t ∧
      (e.settings.rate = 1 → ∃ u, offerTakeAuto s = .applied u ∧ u.keys = t.keys ∧ u.crosspoint = t.crosspoint ∧
        u.engine = t.engine) ∧
      t = ((s.setEngine t.engine).setKeys t.keys).setCrosspoint { s.crosspoint with buses := t.crosspoint.buses } ∧
      (t.engine.state = .idle ∧ t.engine.progress = 0 ∧ t.engine.engaged = false ∧ t.engine.selection = e.selection ∧
        t.engine.settings = e.settings) ∧
      (e.selection.background = false → t.crosspoint = s.crosspoint) ∧
      (e.selection.background = true → t.crosspoint.buses.pgm.selected = s.crosspoint.buses.pst.selected ∧
        t.crosspoint.buses.pst.selected = s.crosspoint.buses.pgm.selected ∧
        t.crosspoint.buses.pgm.previous = s.crosspoint.buses.pgm.selected ∧
        t.crosspoint.buses.pst.previous = s.crosspoint.buses.pst.selected ∧
        t.crosspoint.buses.pgm.lastSelector = s.crosspoint.buses.pst.lastSelector ∧
        t.crosspoint.buses.pst.lastSelector = s.crosspoint.buses.pgm.lastSelector) ∧
      (∀ l, e.selection.mask l = true → rising l → t.keys.get l = { s.keys.get l with state := .on, level := 1024, elapsed := 0 }) ∧
      (∀ l, e.selection.mask l = true → ¬ rising l → t.keys.get l = { s.keys.get l with state := .off, level := 0, elapsed := 0 }) ∧
      (∀ l, e.selection.mask l = false → t.keys.get l = s.keys.get l))) ∧
  (∀ s : State, s.engine.state = .lever →
    let e := s.engine
    let r := max 1 (((1024 - e.progress) * e.settings.rate + 1023) / 1024)
    let p := e.progress + (1024 - e.progress) / r
    ∃ t, offerTakeAuto s = .applied t ∧
      (1 < r → t = (s.setEngine { e with state := .auto, startProgress := e.progress, remaining := r, elapsed := 1, progress := p,
                                         engaged := false }).setKeys t.keys ∧
        ∀ l, ((s.keys.get l).moving = false → t.keys.get l = s.keys.get l) ∧
          ((s.keys.get l).moving = true → (s.keys.get l).state = .rising → t.keys.get l = { s.keys.get l with level := p }) ∧
          ((s.keys.get l).moving = true → (s.keys.get l).state = .falling → t.keys.get l = { s.keys.get l with level := 1024 - p })) ∧
      (r = 1 → t.engine.state = .idle ∧ t.engine.progress = 0 ∧ t.crosspoint = (complete s).crosspoint ∧ t.keys = (complete s).keys)) ∧
  (∀ s : State, s.engine.state ≠ .idle → offerTakeCut s = .applied (complete s))

/-- A LEVER entry is applied when its sender is the lever owner, and consumed without effect otherwise (R36). The reduction of a
lever position, and the lever followed in LEVER: under UP the derived progress is the position and under DOWN 1024 less it;
engaged, 1008 or more completes, 16 or less abandons, which returns every moving layer to the rest it left, RISING to OFF and
FALLING to ON, exchanges no bus and leaves the direction bit, and anything between is the progress, which the moving layers
follow; disengaged, the lever engages within 16 of the held progress and otherwise holds it (R32, R37, R39, R40). In IDLE, an
engaged lever past 16 starts a transition of a selection that is not empty at that progress, which from 1008 completes at once;
any other position picks the lever up, in an end zone with its sense and elsewhere disengaged (R24, R38). -/
def Obligations.LeverIsFollowedOnceEngaged : Prop :=
  (∀ (s : State) (sender : Station) (position : Nat),
    (s.intake.leverOwner ≠ some sender → offerLever sender position s = .applied s) ∧
    (s.intake.leverOwner = some sender →
      offerLever sender position s = .applied (evaluate (s.setEngine { s.engine with latest := some position })))) ∧
  (∀ (s : State) (position : Nat), s.engine.state = .idle → s.engine.latest = some position → position ≤ 1024 →
    let e := s.engine
    let d := if e.sense = .up then position else 1024 - position
    let starts := e.engaged = true ∧ 16 < d ∧ e.selection.isEmpty = false
    let rising := fun l => (s.keys.get l).state = .off ∨ (s.keys.get l).state = .falling
    (starts → d < 1008 → (evaluate s).engine = { e with state := .lever, progress := d } ∧
      evaluate s = (s.setEngine (evaluate s).engine).setKeys (evaluate s).keys ∧
      (∀ l, e.selection.mask l = true → rising l → (evaluate s).keys.get l =
        { s.keys.get l with state := .rising, level := d, elapsed := 0, moving := true }) ∧
      (∀ l, e.selection.mask l = true → ¬ rising l → (evaluate s).keys.get l =
        { s.keys.get l with state := .falling, level := 1024 - d, elapsed := 0, moving := true }) ∧
      (∀ l, e.selection.mask l = false → (s.keys.get l).moving = false → (evaluate s).keys.get l = s.keys.get l)) ∧
    (starts → 1008 ≤ d → (evaluate s).engine.state = .idle ∧ (evaluate s).engine.progress = 0 ∧
      (e.selection.background = true →
        (evaluate s).crosspoint.buses.pgm.selected = s.crosspoint.buses.pst.selected) ∧
      (∀ l, e.selection.mask l = true → rising l → ((evaluate s).keys.get l).state = .on) ∧
      (∀ l, e.selection.mask l = true → ¬ rising l → ((evaluate s).keys.get l).state = .off)) ∧
    (¬ starts → (position ≤ 16 → evaluate s = s.setEngine { e with sense := .up, engaged := true }) ∧
      (1008 ≤ position → evaluate s = s.setEngine { e with sense := .down, engaged := true }) ∧
      (16 < position → position < 1008 → evaluate s = s.setEngine { e with engaged := false }))) ∧
  (∀ (s : State) (position : Nat), s.engine.state = .lever → s.engine.latest = some position → position ≤ 1024 →
    let d := if s.engine.sense = .up then position else 1024 - position
    let near := s.engine.engaged = true ∨ (d ≤ s.engine.progress + 16 ∧ s.engine.progress ≤ d + 16)
    (near → 1008 ≤ d → evaluate s = complete s ∧ (evaluate s).engine.state = .idle ∧ (evaluate s).engine.progress = 0 ∧
      (evaluate s).engine.engaged = false ∧ (evaluate s).engine.sense = s.engine.sense ∧
      (s.engine.selection.background = true →
        (evaluate s).crosspoint.buses.pgm.selected = s.crosspoint.buses.pst.selected)) ∧
    (near → d ≤ 16 → evaluate s = abandon s ∧ (evaluate s).engine.state = .idle ∧ (evaluate s).engine.progress = 0 ∧
      (evaluate s).engine.engaged = false ∧ (evaluate s).engine.sense = s.engine.sense ∧
      (evaluate s).crosspoint = s.crosspoint ∧ (evaluate s).engine.direction = s.engine.direction ∧
      (evaluate s).engine.startProgress = 0 ∧ (evaluate s).engine.elapsed = 0 ∧
      evaluate s = (s.setEngine (evaluate s).engine).setKeys (evaluate s).keys ∧ (evaluate s).keys.stack = s.keys.stack ∧
      ∀ l, ((s.keys.get l).moving = false → (evaluate s).keys.get l = s.keys.get l) ∧
        ((s.keys.get l).moving = true → (s.keys.get l).state = .rising → (evaluate s).keys.get l =
          { s.keys.get l with state := .off, level := 0, elapsed := 0, moving := false }) ∧
        ((s.keys.get l).moving = true → (s.keys.get l).state = .falling → (evaluate s).keys.get l =
          { s.keys.get l with state := .on, level := 1024, elapsed := 0, moving := false })) ∧
    (near → 16 < d → d < 1008 → (evaluate s).engine = { s.engine with progress := d, engaged := true } ∧
      ∀ l, (s.keys.get l).moving = true →
        ((s.keys.get l).state = .rising → ((evaluate s).keys.get l).level = d) ∧
        ((s.keys.get l).state = .falling → ((evaluate s).keys.get l).level = 1024 - d)) ∧
    (¬ near → evaluate s = s))

/-- KEYTAKE by its table: on a layer at rest a CUT toggles it, and a MIX starts an own key mix at count 1 that has ended at once
with a key rate of 1; on a layer in its own key mix a CUT ends the mix in the direction it was going, and a MIX is refused with
TRANSITION_RUNNING; on a layer that moves with the transition both are refused so (R54 to R57). -/
def Obligations.KeytakeFollowsItsTable : Prop :=
  ∀ (s : State) (l : Layer),
    let r := s.keys.get l
    let becomes := fun (x : LayerRecord) => Answer.applied (s.setKeys (s.keys.set l x))
    let refused := Answer.refused .transitionRunning (layerNumber l)
    (r.moving = false →
      (r.state = .off → offerKeytake l .cut s = becomes { r with state := .on, level := 1024, elapsed := 0 } ∧
        (1 < r.settings.rate → offerKeytake l .mix s = becomes { r with state := .rising, level := 1024 / r.settings.rate, elapsed := 1 }) ∧
        (r.settings.rate = 1 → offerKeytake l .mix s = becomes { r with state := .on, level := 1024, elapsed := 0 })) ∧
      (r.state = .on → offerKeytake l .cut s = becomes { r with state := .off, level := 0, elapsed := 0 } ∧
        (1 < r.settings.rate →
          offerKeytake l .mix s = becomes { r with state := .falling, level := 1024 - 1024 / r.settings.rate, elapsed := 1 }) ∧
        (r.settings.rate = 1 → offerKeytake l .mix s = becomes { r with state := .off, level := 0, elapsed := 0 })) ∧
      (r.state = .rising → offerKeytake l .cut s = becomes { r with state := .on, level := 1024, elapsed := 0 } ∧
        offerKeytake l .mix s = refused) ∧
      (r.state = .falling → offerKeytake l .cut s = becomes { r with state := .off, level := 0, elapsed := 0 } ∧
        offerKeytake l .mix s = refused)) ∧
    (r.moving = true → ∀ m, offerKeytake l m s = refused)

/-- The move of a layer to stack position k: the layer stands at position k, the other three keep their relative order, and the
order stays a permutation; a move to the present position changes nothing. A KEYSET applied with a stack position moves its layer
so, changes no layer's state or level nor an announced value, and gives its layer the settings of the fields it carries and no
other; both scenes are composited in the new order; and while a transition runs or any layer moves such a KEYSET is deferred (R52,
R53). -/
def Obligations.StackMovePermutes : Prop :=
  (∀ (stack : List Layer) (l : Layer) (k : Nat), stack.Perm [.l1, .l2, .l3, .l4] → 1 ≤ k → k ≤ 4 →
    (moveInStack stack l k).Perm [.l1, .l2, .l3, .l4] ∧ (moveInStack stack l k)[k - 1]? = some l ∧
    (moveInStack stack l k).erase l = stack.erase l ∧ (stack[k - 1]? = some l → moveInStack stack l k = stack)) ∧
  (∀ (s t : State) (l : Layer) (f : KeysetFields) (k : Nat), f.stackPosition = some k → offerKeyset l f s = .applied t →
    t = s.setKeys t.keys ∧ t.keys.stack = moveInStack s.keys.stack l k ∧
    (∀ x, t.keys.get x = { s.keys.get x with settings := (t.keys.get x).settings }) ∧
    (∀ x, x ≠ l → t.keys.get x = s.keys.get x) ∧
    (let k := (s.keys.get l).settings
     (t.keys.get l).settings = {
       type := f.type.getD k.type, clip := f.clip.getD k.clip, gain := f.gain.getD k.gain, invert := f.invert.getD k.invert,
       rate := f.rate.getD k.rate, maskMode := f.maskMode.getD k.maskMode, left := f.left.getD k.left, top := f.top.getD k.top,
       width := f.width.getD k.width, height := f.height.getD k.height }) ∧
    (f = { type := none, clip := none, gain := none, invert := none, rate := none, maskMode := none, left := none, top := none,
           width := none, height := none, stackPosition := some k } → t = s.setKeys { s.keys with stack := t.keys.stack }) ∧
    announcedOf t = announcedOf s ∧
    (∀ pic, (programmeScene t pic).layers =
        t.keys.stack.map fun x => keyedLayer t.crosspoint.buses pic x (t.keys.get x) (t.keys.get x).level) ∧
    (∀ pic, (previewScene t pic).layers =
        t.keys.stack.map fun x => keyedLayer t.crosspoint.buses pic x (t.keys.get x) (previewLevel t.engine x (t.keys.get x)))) ∧
  (∀ (s : State) (l : Layer) (f : KeysetFields) (k : Nat), f.stackPosition = some k →
    (s.engine.state ≠ .idle ∨ ∃ x, (s.keys.get x).state = .rising ∨ (s.keys.get x).state = .falling) →
    offerKeyset l f s = .deferred)

/-- RESTORE: a FAILED input with its count below the threshold becomes CLEAN at a count of 0 and SUSPECT above, one at or above
the threshold is refused with STILL_FAULTY, and an input that is not FAILED is left as it is (R109). -/
def Obligations.RestoreClearsFailed : Prop :=
  ∀ (s : State) (i : InputNo), s.monitor.inputs.length = 12 →
    ((s.monitor.get i).health ≠ .failed → offerRestore i s = .applied s) ∧
    ((s.monitor.get i).health = .failed → (s.monitor.get i).count < s.monitor.threshold →
      ∃ t, offerRestore i s = .applied t ∧ t = s.setMonitor { s.monitor with inputs := t.monitor.inputs } ∧
        t.monitor.get i = { s.monitor.get i with health := if (s.monitor.get i).count = 0 then .clean else .suspect } ∧
        ∀ j, j ≠ i → t.monitor.get j = s.monitor.get j) ∧
    ((s.monitor.get i).health = .failed → s.monitor.threshold ≤ (s.monitor.get i).count →
      offerRestore i s = .refused .stillFaulty (BitVec.ofNat 8 i.val))

/-! ## What every step keeps -/

/-- The sound state of every block holds right after reset. -/
def Obligations.ResetIsSound : Prop :=
  LoaderSound State.reset ∧ CountersSound State.reset ∧ ReferenceSound State.reset ∧ PortSound State.reset ∧ QueueSound State.reset ∧
  PeersSound State.reset ∧ OwnerSound State.reset ∧ StackSound State.reset ∧ RatesSound State.reset ∧ TransitionSound State.reset ∧
  SourcesSound State.reset ∧ SetsSound State.reset ∧ MonitorSound State.reset ∧ TallySound State.reset ∧ CountsSound State.reset ∧
  LineSound State.reset ∧ PictureSound State.reset

/-- Every step keeps the counters on a line and sample of the format and the reference record sound (R113, R114, R117, R121). -/
def Obligations.StepsKeepTheRasterSound : Prop := KeptByStep fun s => CountersSound s ∧ ReferenceSound s

/-- Every step keeps the port within its slots and its budget: never more than 4 frames of one field, never more than 4 refusals,
and nothing sent or pending outside RUNNING (R130, R131, R135, R136); and a port that is assembling a frame or waits for IDLE
holds the line BUSY (R128, R138, R141). -/
def Obligations.StepsKeepThePortSound : Prop := KeptByStep (fun s => LoaderSound s ∧ PortSound s) ∧ KeptByStep LineSound

/-- Every step keeps the Field Action Queue at no more than 16 entries with no coalescing key twice (R158). -/
def Obligations.StepsKeepTheQueueSound : Prop := KeptByStep fun s => LoaderSound s ∧ QueueSound s

/-- Every step keeps the Peer View at one entry per other station, none for this station's own number, each of age below 24, and
its counts below their limits (R164, R167, R168, R177). -/
def Obligations.StepsKeepThePeerViewSound : Prop := KeptByStep fun s => LoaderSound s ∧ PeersSound s ∧ CountsSound s

/-- Every step keeps the lever owner a live panel delegated here with FULL permission, under FIXED the lowest-numbered one, and
absent outside RUNNING (R154, R156, R163). -/
def Obligations.StepsKeepTheLeverOwnerSound : Prop := KeptByStep fun s => LoaderSound s ∧ OwnerSound s

/-- Every step keeps the stack order a permutation of layers 1..4 (R9, R53). -/
def Obligations.StepsKeepTheStackAPermutation : Prop := KeptByStep StackSound

/-- Every step keeps the progress, counts and levels those of the engine state and the layer states: progress 0 in IDLE, below
1024 in AUTO and 17..1007 in LEVER; level 0 when OFF, 1024 when ON, 1..1023 in an own mix and the progress, or 1024 less it, with
the transition; and the selection is not empty in AUTO or LEVER (R20, R22, R26, R43, R45, R48). -/
def Obligations.StepsKeepProgressAndLevelsSound : Prop := KeptByStep fun s => LoaderSound s ∧ RatesSound s ∧ TransitionSound s

/-- Every step keeps every selected source one the station can show, never its own programme number, every effective source the
resolution of its selection from the health states, and the contribution and next-contribution sets those of the composition as it
stands (R13, R14, R87, R89, R93, R97). -/
def Obligations.StepsKeepTheSourcesSound : Prop := KeptByStep fun s => LoaderSound s ∧ SourcesSound s ∧ SetsSound s

/-- Every step keeps each input's count in 0..255, its buffer within A, its divider within D, and its health state that of its
count or FAILED (R99, R100, R105 to R107). -/
def Obligations.StepsKeepTheMonitorSound : Prop := KeptByStep fun s => LoaderSound s ∧ MonitorSound s

/-- Every step keeps the ON-AIR and PREVIEW sets disjoint and every tally line DARK outside RUNNING (R172, R173). -/
def Obligations.StepsKeepTheTallySound : Prop := KeptByStep fun s => LoaderSound s ∧ TallySound s

/-- How effective sources and source sets follow from the record. BLACK and MATTE resolve to themselves, a mapped source whose
input is not FAILED to itself, one whose input is FAILED to its backup when that is BLACK, MATTE or mapped to an input that is not
FAILED, and to BLACK when the backup's input is FAILED or there is none; an UNMAPPED source resolves to BLACK (R93). In sound
sets, the contribution set holds the effective PGM source, the effective PST source in AUTO or LEVER with the background in the
selection, and the effective fill of every layer above level 0, and nothing else; the next-contribution set holds the preview
background source and the effective fill of every layer whose preview level is 1024, and nothing else (R11 to R14). With sound
sources every effective source is BLACK, MATTE or a source mapped to an input that is not FAILED, and neither source set holds
this station's own programme number (R13, R14, R94). -/
def Obligations.SoundSourcesShowNoFailureAndNoLoop : Prop :=
  (∀ (c : Crosspoint) (m : Monitor) (n : Source),
    let failed := fun (i : InputNo) => (m.get i).health = .failed
    (n.val < 2 → resolveSource c m n = n) ∧
    (2 ≤ n.val → c.entry n = none → resolveSource c m n = 0) ∧
    (∀ e, 2 ≤ n.val → c.entry n = some e →
      (¬ failed e.input → resolveSource c m n = n) ∧
      (failed e.input →
        (e.backup = none → resolveSource c m n = 0) ∧
        (∀ b, e.backup = some b →
          (b.val < 2 → resolveSource c m n = b) ∧
          (∀ e', 2 ≤ b.val → c.entry b = some e' →
            (¬ failed e'.input → resolveSource c m n = b) ∧ (failed e'.input → resolveSource c m n = 0)))))) ∧
  (∀ s : State, SetsSound s → ∀ n : Source,
    let b := s.crosspoint.buses
    let fill := fun (l : Layer) =>
      match l with
      | .l1 => b.k1f.effective
      | .l2 => b.k2f.effective
      | .l3 => b.k3f.effective
      | .l4 => b.k4f.effective
    let endsOn := fun l => (s.keys.get l).state = .on ∨ (s.keys.get l).state = .rising
    let toggled := fun l => s.engine.state = .idle ∧ s.engine.selection.mask l = true
    (setHas s.sets.contribution n = true ↔
      n = b.pgm.effective ∨ (s.engine.state ≠ .idle ∧ s.engine.selection.background = true ∧ n = b.pst.effective) ∨
      ∃ l, 0 < (s.keys.get l).level ∧ n = fill l) ∧
    (setHas s.sets.next n = true ↔
      n = (if s.engine.selection.background then b.pst.effective else b.pgm.effective) ∨
      ∃ l, ((endsOn l ∧ ¬ toggled l) ∨ (¬ endsOn l ∧ toggled l)) ∧ n = fill l)) ∧
  (∀ s : State, SourcesSound s → SetsSound s →
    (∀ b, (s.crosspoint.buses.get b).effective.val < 2 ∨ ∃ e, s.crosspoint.entry (s.crosspoint.buses.get b).effective = some e ∧
      (s.monitor.get e.input).health ≠ .failed) ∧
    (∀ own, s.crosspoint.programme = some own → setHas s.sets.contribution own = false ∧ setHas s.sets.next own = false))
end

