-- ==== Sys2Proof/Laws/State.lean ====
section
/-! SUPPORT. One lemma per block per update of the state: an update writes its block and leaves every other. -/

namespace Sys2Proof.Machine

@[simp] theorem State.setLoader_loader (s : State) (x : Loader) : (s.setLoader x).loader = x := rfl
@[simp] theorem State.setLoader_raster (s : State) (x : Loader) : (s.setLoader x).raster = s.raster := rfl
@[simp] theorem State.setLoader_port (s : State) (x : Loader) : (s.setLoader x).port = s.port := rfl
@[simp] theorem State.setLoader_intake (s : State) (x : Loader) : (s.setLoader x).intake = s.intake := rfl
@[simp] theorem State.setLoader_peers (s : State) (x : Loader) : (s.setLoader x).peers = s.peers := rfl
@[simp] theorem State.setLoader_crosspoint (s : State) (x : Loader) : (s.setLoader x).crosspoint = s.crosspoint := rfl
@[simp] theorem State.setLoader_sets (s : State) (x : Loader) : (s.setLoader x).sets = s.sets := rfl
@[simp] theorem State.setLoader_monitor (s : State) (x : Loader) : (s.setLoader x).monitor = s.monitor := rfl
@[simp] theorem State.setLoader_engine (s : State) (x : Loader) : (s.setLoader x).engine = s.engine := rfl
@[simp] theorem State.setLoader_keys (s : State) (x : Loader) : (s.setLoader x).keys = s.keys := rfl
@[simp] theorem State.setLoader_picture (s : State) (x : Loader) : (s.setLoader x).picture = s.picture := rfl
@[simp] theorem State.setLoader_tally (s : State) (x : Loader) : (s.setLoader x).tally = s.tally := rfl
@[simp] theorem State.setLoader_freeCount (s : State) (x : Loader) : (s.setLoader x).freeCount = s.freeCount := rfl
@[simp] theorem State.setLoader_pending (s : State) (x : Loader) : (s.setLoader x).pending = s.pending := rfl
@[simp] theorem State.setRaster_loader (s : State) (x : Raster) : (s.setRaster x).loader = s.loader := rfl
@[simp] theorem State.setRaster_raster (s : State) (x : Raster) : (s.setRaster x).raster = x := rfl
@[simp] theorem State.setRaster_port (s : State) (x : Raster) : (s.setRaster x).port = s.port := rfl
@[simp] theorem State.setRaster_intake (s : State) (x : Raster) : (s.setRaster x).intake = s.intake := rfl
@[simp] theorem State.setRaster_peers (s : State) (x : Raster) : (s.setRaster x).peers = s.peers := rfl
@[simp] theorem State.setRaster_crosspoint (s : State) (x : Raster) : (s.setRaster x).crosspoint = s.crosspoint := rfl
@[simp] theorem State.setRaster_sets (s : State) (x : Raster) : (s.setRaster x).sets = s.sets := rfl
@[simp] theorem State.setRaster_monitor (s : State) (x : Raster) : (s.setRaster x).monitor = s.monitor := rfl
@[simp] theorem State.setRaster_engine (s : State) (x : Raster) : (s.setRaster x).engine = s.engine := rfl
@[simp] theorem State.setRaster_keys (s : State) (x : Raster) : (s.setRaster x).keys = s.keys := rfl
@[simp] theorem State.setRaster_picture (s : State) (x : Raster) : (s.setRaster x).picture = s.picture := rfl
@[simp] theorem State.setRaster_tally (s : State) (x : Raster) : (s.setRaster x).tally = s.tally := rfl
@[simp] theorem State.setRaster_freeCount (s : State) (x : Raster) : (s.setRaster x).freeCount = s.freeCount := rfl
@[simp] theorem State.setRaster_pending (s : State) (x : Raster) : (s.setRaster x).pending = s.pending := rfl
@[simp] theorem State.setPort_loader (s : State) (x : Port) : (s.setPort x).loader = s.loader := rfl
@[simp] theorem State.setPort_raster (s : State) (x : Port) : (s.setPort x).raster = s.raster := rfl
@[simp] theorem State.setPort_port (s : State) (x : Port) : (s.setPort x).port = x := rfl
@[simp] theorem State.setPort_intake (s : State) (x : Port) : (s.setPort x).intake = s.intake := rfl
@[simp] theorem State.setPort_peers (s : State) (x : Port) : (s.setPort x).peers = s.peers := rfl
@[simp] theorem State.setPort_crosspoint (s : State) (x : Port) : (s.setPort x).crosspoint = s.crosspoint := rfl
@[simp] theorem State.setPort_sets (s : State) (x : Port) : (s.setPort x).sets = s.sets := rfl
@[simp] theorem State.setPort_monitor (s : State) (x : Port) : (s.setPort x).monitor = s.monitor := rfl
@[simp] theorem State.setPort_engine (s : State) (x : Port) : (s.setPort x).engine = s.engine := rfl
@[simp] theorem State.setPort_keys (s : State) (x : Port) : (s.setPort x).keys = s.keys := rfl
@[simp] theorem State.setPort_picture (s : State) (x : Port) : (s.setPort x).picture = s.picture := rfl
@[simp] theorem State.setPort_tally (s : State) (x : Port) : (s.setPort x).tally = s.tally := rfl
@[simp] theorem State.setPort_freeCount (s : State) (x : Port) : (s.setPort x).freeCount = s.freeCount := rfl
@[simp] theorem State.setPort_pending (s : State) (x : Port) : (s.setPort x).pending = s.pending := rfl
@[simp] theorem State.setIntake_loader (s : State) (x : Intake) : (s.setIntake x).loader = s.loader := rfl
@[simp] theorem State.setIntake_raster (s : State) (x : Intake) : (s.setIntake x).raster = s.raster := rfl
@[simp] theorem State.setIntake_port (s : State) (x : Intake) : (s.setIntake x).port = s.port := rfl
@[simp] theorem State.setIntake_intake (s : State) (x : Intake) : (s.setIntake x).intake = x := rfl
@[simp] theorem State.setIntake_peers (s : State) (x : Intake) : (s.setIntake x).peers = s.peers := rfl
@[simp] theorem State.setIntake_crosspoint (s : State) (x : Intake) : (s.setIntake x).crosspoint = s.crosspoint := rfl
@[simp] theorem State.setIntake_sets (s : State) (x : Intake) : (s.setIntake x).sets = s.sets := rfl
@[simp] theorem State.setIntake_monitor (s : State) (x : Intake) : (s.setIntake x).monitor = s.monitor := rfl
@[simp] theorem State.setIntake_engine (s : State) (x : Intake) : (s.setIntake x).engine = s.engine := rfl
@[simp] theorem State.setIntake_keys (s : State) (x : Intake) : (s.setIntake x).keys = s.keys := rfl
@[simp] theorem State.setIntake_picture (s : State) (x : Intake) : (s.setIntake x).picture = s.picture := rfl
@[simp] theorem State.setIntake_tally (s : State) (x : Intake) : (s.setIntake x).tally = s.tally := rfl
@[simp] theorem State.setIntake_freeCount (s : State) (x : Intake) : (s.setIntake x).freeCount = s.freeCount := rfl
@[simp] theorem State.setIntake_pending (s : State) (x : Intake) : (s.setIntake x).pending = s.pending := rfl
@[simp] theorem State.setPeers_loader (s : State) (x : PeerView) : (s.setPeers x).loader = s.loader := rfl
@[simp] theorem State.setPeers_raster (s : State) (x : PeerView) : (s.setPeers x).raster = s.raster := rfl
@[simp] theorem State.setPeers_port (s : State) (x : PeerView) : (s.setPeers x).port = s.port := rfl
@[simp] theorem State.setPeers_intake (s : State) (x : PeerView) : (s.setPeers x).intake = s.intake := rfl
@[simp] theorem State.setPeers_peers (s : State) (x : PeerView) : (s.setPeers x).peers = x := rfl
@[simp] theorem State.setPeers_crosspoint (s : State) (x : PeerView) : (s.setPeers x).crosspoint = s.crosspoint := rfl
@[simp] theorem State.setPeers_sets (s : State) (x : PeerView) : (s.setPeers x).sets = s.sets := rfl
@[simp] theorem State.setPeers_monitor (s : State) (x : PeerView) : (s.setPeers x).monitor = s.monitor := rfl
@[simp] theorem State.setPeers_engine (s : State) (x : PeerView) : (s.setPeers x).engine = s.engine := rfl
@[simp] theorem State.setPeers_keys (s : State) (x : PeerView) : (s.setPeers x).keys = s.keys := rfl
@[simp] theorem State.setPeers_picture (s : State) (x : PeerView) : (s.setPeers x).picture = s.picture := rfl
@[simp] theorem State.setPeers_tally (s : State) (x : PeerView) : (s.setPeers x).tally = s.tally := rfl
@[simp] theorem State.setPeers_freeCount (s : State) (x : PeerView) : (s.setPeers x).freeCount = s.freeCount := rfl
@[simp] theorem State.setPeers_pending (s : State) (x : PeerView) : (s.setPeers x).pending = s.pending := rfl
@[simp] theorem State.setCrosspoint_loader (s : State) (x : Crosspoint) : (s.setCrosspoint x).loader = s.loader := rfl
@[simp] theorem State.setCrosspoint_raster (s : State) (x : Crosspoint) : (s.setCrosspoint x).raster = s.raster := rfl
@[simp] theorem State.setCrosspoint_port (s : State) (x : Crosspoint) : (s.setCrosspoint x).port = s.port := rfl
@[simp] theorem State.setCrosspoint_intake (s : State) (x : Crosspoint) : (s.setCrosspoint x).intake = s.intake := rfl
@[simp] theorem State.setCrosspoint_peers (s : State) (x : Crosspoint) : (s.setCrosspoint x).peers = s.peers := rfl
@[simp] theorem State.setCrosspoint_crosspoint (s : State) (x : Crosspoint) : (s.setCrosspoint x).crosspoint = x := rfl
@[simp] theorem State.setCrosspoint_sets (s : State) (x : Crosspoint) : (s.setCrosspoint x).sets = s.sets := rfl
@[simp] theorem State.setCrosspoint_monitor (s : State) (x : Crosspoint) : (s.setCrosspoint x).monitor = s.monitor := rfl
@[simp] theorem State.setCrosspoint_engine (s : State) (x : Crosspoint) : (s.setCrosspoint x).engine = s.engine := rfl
@[simp] theorem State.setCrosspoint_keys (s : State) (x : Crosspoint) : (s.setCrosspoint x).keys = s.keys := rfl
@[simp] theorem State.setCrosspoint_picture (s : State) (x : Crosspoint) : (s.setCrosspoint x).picture = s.picture := rfl
@[simp] theorem State.setCrosspoint_tally (s : State) (x : Crosspoint) : (s.setCrosspoint x).tally = s.tally := rfl
@[simp] theorem State.setCrosspoint_freeCount (s : State) (x : Crosspoint) : (s.setCrosspoint x).freeCount = s.freeCount := rfl
@[simp] theorem State.setCrosspoint_pending (s : State) (x : Crosspoint) : (s.setCrosspoint x).pending = s.pending := rfl
@[simp] theorem State.setSets_loader (s : State) (x : SourceSets) : (s.setSets x).loader = s.loader := rfl
@[simp] theorem State.setSets_raster (s : State) (x : SourceSets) : (s.setSets x).raster = s.raster := rfl
@[simp] theorem State.setSets_port (s : State) (x : SourceSets) : (s.setSets x).port = s.port := rfl
@[simp] theorem State.setSets_intake (s : State) (x : SourceSets) : (s.setSets x).intake = s.intake := rfl
@[simp] theorem State.setSets_peers (s : State) (x : SourceSets) : (s.setSets x).peers = s.peers := rfl
@[simp] theorem State.setSets_crosspoint (s : State) (x : SourceSets) : (s.setSets x).crosspoint = s.crosspoint := rfl
@[simp] theorem State.setSets_sets (s : State) (x : SourceSets) : (s.setSets x).sets = x := rfl
@[simp] theorem State.setSets_monitor (s : State) (x : SourceSets) : (s.setSets x).monitor = s.monitor := rfl
@[simp] theorem State.setSets_engine (s : State) (x : SourceSets) : (s.setSets x).engine = s.engine := rfl
@[simp] theorem State.setSets_keys (s : State) (x : SourceSets) : (s.setSets x).keys = s.keys := rfl
@[simp] theorem State.setSets_picture (s : State) (x : SourceSets) : (s.setSets x).picture = s.picture := rfl
@[simp] theorem State.setSets_tally (s : State) (x : SourceSets) : (s.setSets x).tally = s.tally := rfl
@[simp] theorem State.setSets_freeCount (s : State) (x : SourceSets) : (s.setSets x).freeCount = s.freeCount := rfl
@[simp] theorem State.setSets_pending (s : State) (x : SourceSets) : (s.setSets x).pending = s.pending := rfl
@[simp] theorem State.setMonitor_loader (s : State) (x : Monitor) : (s.setMonitor x).loader = s.loader := rfl
@[simp] theorem State.setMonitor_raster (s : State) (x : Monitor) : (s.setMonitor x).raster = s.raster := rfl
@[simp] theorem State.setMonitor_port (s : State) (x : Monitor) : (s.setMonitor x).port = s.port := rfl
@[simp] theorem State.setMonitor_intake (s : State) (x : Monitor) : (s.setMonitor x).intake = s.intake := rfl
@[simp] theorem State.setMonitor_peers (s : State) (x : Monitor) : (s.setMonitor x).peers = s.peers := rfl
@[simp] theorem State.setMonitor_crosspoint (s : State) (x : Monitor) : (s.setMonitor x).crosspoint = s.crosspoint := rfl
@[simp] theorem State.setMonitor_sets (s : State) (x : Monitor) : (s.setMonitor x).sets = s.sets := rfl
@[simp] theorem State.setMonitor_monitor (s : State) (x : Monitor) : (s.setMonitor x).monitor = x := rfl
@[simp] theorem State.setMonitor_engine (s : State) (x : Monitor) : (s.setMonitor x).engine = s.engine := rfl
@[simp] theorem State.setMonitor_keys (s : State) (x : Monitor) : (s.setMonitor x).keys = s.keys := rfl
@[simp] theorem State.setMonitor_picture (s : State) (x : Monitor) : (s.setMonitor x).picture = s.picture := rfl
@[simp] theorem State.setMonitor_tally (s : State) (x : Monitor) : (s.setMonitor x).tally = s.tally := rfl
@[simp] theorem State.setMonitor_freeCount (s : State) (x : Monitor) : (s.setMonitor x).freeCount = s.freeCount := rfl
@[simp] theorem State.setMonitor_pending (s : State) (x : Monitor) : (s.setMonitor x).pending = s.pending := rfl
@[simp] theorem State.setEngine_loader (s : State) (x : Engine) : (s.setEngine x).loader = s.loader := rfl
@[simp] theorem State.setEngine_raster (s : State) (x : Engine) : (s.setEngine x).raster = s.raster := rfl
@[simp] theorem State.setEngine_port (s : State) (x : Engine) : (s.setEngine x).port = s.port := rfl
@[simp] theorem State.setEngine_intake (s : State) (x : Engine) : (s.setEngine x).intake = s.intake := rfl
@[simp] theorem State.setEngine_peers (s : State) (x : Engine) : (s.setEngine x).peers = s.peers := rfl
@[simp] theorem State.setEngine_crosspoint (s : State) (x : Engine) : (s.setEngine x).crosspoint = s.crosspoint := rfl
@[simp] theorem State.setEngine_sets (s : State) (x : Engine) : (s.setEngine x).sets = s.sets := rfl
@[simp] theorem State.setEngine_monitor (s : State) (x : Engine) : (s.setEngine x).monitor = s.monitor := rfl
@[simp] theorem State.setEngine_engine (s : State) (x : Engine) : (s.setEngine x).engine = x := rfl
@[simp] theorem State.setEngine_keys (s : State) (x : Engine) : (s.setEngine x).keys = s.keys := rfl
@[simp] theorem State.setEngine_picture (s : State) (x : Engine) : (s.setEngine x).picture = s.picture := rfl
@[simp] theorem State.setEngine_tally (s : State) (x : Engine) : (s.setEngine x).tally = s.tally := rfl
@[simp] theorem State.setEngine_freeCount (s : State) (x : Engine) : (s.setEngine x).freeCount = s.freeCount := rfl
@[simp] theorem State.setEngine_pending (s : State) (x : Engine) : (s.setEngine x).pending = s.pending := rfl
@[simp] theorem State.setKeys_loader (s : State) (x : KeyUnit) : (s.setKeys x).loader = s.loader := rfl
@[simp] theorem State.setKeys_raster (s : State) (x : KeyUnit) : (s.setKeys x).raster = s.raster := rfl
@[simp] theorem State.setKeys_port (s : State) (x : KeyUnit) : (s.setKeys x).port = s.port := rfl
@[simp] theorem State.setKeys_intake (s : State) (x : KeyUnit) : (s.setKeys x).intake = s.intake := rfl
@[simp] theorem State.setKeys_peers (s : State) (x : KeyUnit) : (s.setKeys x).peers = s.peers := rfl
@[simp] theorem State.setKeys_crosspoint (s : State) (x : KeyUnit) : (s.setKeys x).crosspoint = s.crosspoint := rfl
@[simp] theorem State.setKeys_sets (s : State) (x : KeyUnit) : (s.setKeys x).sets = s.sets := rfl
@[simp] theorem State.setKeys_monitor (s : State) (x : KeyUnit) : (s.setKeys x).monitor = s.monitor := rfl
@[simp] theorem State.setKeys_engine (s : State) (x : KeyUnit) : (s.setKeys x).engine = s.engine := rfl
@[simp] theorem State.setKeys_keys (s : State) (x : KeyUnit) : (s.setKeys x).keys = x := rfl
@[simp] theorem State.setKeys_picture (s : State) (x : KeyUnit) : (s.setKeys x).picture = s.picture := rfl
@[simp] theorem State.setKeys_tally (s : State) (x : KeyUnit) : (s.setKeys x).tally = s.tally := rfl
@[simp] theorem State.setKeys_freeCount (s : State) (x : KeyUnit) : (s.setKeys x).freeCount = s.freeCount := rfl
@[simp] theorem State.setKeys_pending (s : State) (x : KeyUnit) : (s.setKeys x).pending = s.pending := rfl
@[simp] theorem State.setPicture_loader (s : State) (x : Picture) : (s.setPicture x).loader = s.loader := rfl
@[simp] theorem State.setPicture_raster (s : State) (x : Picture) : (s.setPicture x).raster = s.raster := rfl
@[simp] theorem State.setPicture_port (s : State) (x : Picture) : (s.setPicture x).port = s.port := rfl
@[simp] theorem State.setPicture_intake (s : State) (x : Picture) : (s.setPicture x).intake = s.intake := rfl
@[simp] theorem State.setPicture_peers (s : State) (x : Picture) : (s.setPicture x).peers = s.peers := rfl
@[simp] theorem State.setPicture_crosspoint (s : State) (x : Picture) : (s.setPicture x).crosspoint = s.crosspoint := rfl
@[simp] theorem State.setPicture_sets (s : State) (x : Picture) : (s.setPicture x).sets = s.sets := rfl
@[simp] theorem State.setPicture_monitor (s : State) (x : Picture) : (s.setPicture x).monitor = s.monitor := rfl
@[simp] theorem State.setPicture_engine (s : State) (x : Picture) : (s.setPicture x).engine = s.engine := rfl
@[simp] theorem State.setPicture_keys (s : State) (x : Picture) : (s.setPicture x).keys = s.keys := rfl
@[simp] theorem State.setPicture_picture (s : State) (x : Picture) : (s.setPicture x).picture = x := rfl
@[simp] theorem State.setPicture_tally (s : State) (x : Picture) : (s.setPicture x).tally = s.tally := rfl
@[simp] theorem State.setPicture_freeCount (s : State) (x : Picture) : (s.setPicture x).freeCount = s.freeCount := rfl
@[simp] theorem State.setPicture_pending (s : State) (x : Picture) : (s.setPicture x).pending = s.pending := rfl
@[simp] theorem State.setTally_loader (s : State) (x : Tally) : (s.setTally x).loader = s.loader := rfl
@[simp] theorem State.setTally_raster (s : State) (x : Tally) : (s.setTally x).raster = s.raster := rfl
@[simp] theorem State.setTally_port (s : State) (x : Tally) : (s.setTally x).port = s.port := rfl
@[simp] theorem State.setTally_intake (s : State) (x : Tally) : (s.setTally x).intake = s.intake := rfl
@[simp] theorem State.setTally_peers (s : State) (x : Tally) : (s.setTally x).peers = s.peers := rfl
@[simp] theorem State.setTally_crosspoint (s : State) (x : Tally) : (s.setTally x).crosspoint = s.crosspoint := rfl
@[simp] theorem State.setTally_sets (s : State) (x : Tally) : (s.setTally x).sets = s.sets := rfl
@[simp] theorem State.setTally_monitor (s : State) (x : Tally) : (s.setTally x).monitor = s.monitor := rfl
@[simp] theorem State.setTally_engine (s : State) (x : Tally) : (s.setTally x).engine = s.engine := rfl
@[simp] theorem State.setTally_keys (s : State) (x : Tally) : (s.setTally x).keys = s.keys := rfl
@[simp] theorem State.setTally_picture (s : State) (x : Tally) : (s.setTally x).picture = s.picture := rfl
@[simp] theorem State.setTally_tally (s : State) (x : Tally) : (s.setTally x).tally = x := rfl
@[simp] theorem State.setTally_freeCount (s : State) (x : Tally) : (s.setTally x).freeCount = s.freeCount := rfl
@[simp] theorem State.setTally_pending (s : State) (x : Tally) : (s.setTally x).pending = s.pending := rfl
@[simp] theorem State.setFreeCount_loader (s : State) (x : Nat) : (s.setFreeCount x).loader = s.loader := rfl
@[simp] theorem State.setFreeCount_raster (s : State) (x : Nat) : (s.setFreeCount x).raster = s.raster := rfl
@[simp] theorem State.setFreeCount_port (s : State) (x : Nat) : (s.setFreeCount x).port = s.port := rfl
@[simp] theorem State.setFreeCount_intake (s : State) (x : Nat) : (s.setFreeCount x).intake = s.intake := rfl
@[simp] theorem State.setFreeCount_peers (s : State) (x : Nat) : (s.setFreeCount x).peers = s.peers := rfl
@[simp] theorem State.setFreeCount_crosspoint (s : State) (x : Nat) : (s.setFreeCount x).crosspoint = s.crosspoint := rfl
@[simp] theorem State.setFreeCount_sets (s : State) (x : Nat) : (s.setFreeCount x).sets = s.sets := rfl
@[simp] theorem State.setFreeCount_monitor (s : State) (x : Nat) : (s.setFreeCount x).monitor = s.monitor := rfl
@[simp] theorem State.setFreeCount_engine (s : State) (x : Nat) : (s.setFreeCount x).engine = s.engine := rfl
@[simp] theorem State.setFreeCount_keys (s : State) (x : Nat) : (s.setFreeCount x).keys = s.keys := rfl
@[simp] theorem State.setFreeCount_picture (s : State) (x : Nat) : (s.setFreeCount x).picture = s.picture := rfl
@[simp] theorem State.setFreeCount_tally (s : State) (x : Nat) : (s.setFreeCount x).tally = s.tally := rfl
@[simp] theorem State.setFreeCount_freeCount (s : State) (x : Nat) : (s.setFreeCount x).freeCount = x := rfl
@[simp] theorem State.setFreeCount_pending (s : State) (x : Nat) : (s.setFreeCount x).pending = s.pending := rfl
@[simp] theorem State.setPending_loader (s : State) (x : List Instr) : (s.setPending x).loader = s.loader := rfl
@[simp] theorem State.setPending_raster (s : State) (x : List Instr) : (s.setPending x).raster = s.raster := rfl
@[simp] theorem State.setPending_port (s : State) (x : List Instr) : (s.setPending x).port = s.port := rfl
@[simp] theorem State.setPending_intake (s : State) (x : List Instr) : (s.setPending x).intake = s.intake := rfl
@[simp] theorem State.setPending_peers (s : State) (x : List Instr) : (s.setPending x).peers = s.peers := rfl
@[simp] theorem State.setPending_crosspoint (s : State) (x : List Instr) : (s.setPending x).crosspoint = s.crosspoint := rfl
@[simp] theorem State.setPending_sets (s : State) (x : List Instr) : (s.setPending x).sets = s.sets := rfl
@[simp] theorem State.setPending_monitor (s : State) (x : List Instr) : (s.setPending x).monitor = s.monitor := rfl
@[simp] theorem State.setPending_engine (s : State) (x : List Instr) : (s.setPending x).engine = s.engine := rfl
@[simp] theorem State.setPending_keys (s : State) (x : List Instr) : (s.setPending x).keys = s.keys := rfl
@[simp] theorem State.setPending_picture (s : State) (x : List Instr) : (s.setPending x).picture = s.picture := rfl
@[simp] theorem State.setPending_tally (s : State) (x : List Instr) : (s.setPending x).tally = s.tally := rfl
@[simp] theorem State.setPending_freeCount (s : State) (x : List Instr) : (s.setPending x).freeCount = s.freeCount := rfl
@[simp] theorem State.setPending_pending (s : State) (x : List Instr) : (s.setPending x).pending = x := rfl

end Sys2Proof.Machine
end

