-- ==== Sys2Proof/Laws/Frames.lean ====
section
/-! SUPPORT. For each shared operation, the blocks it leaves as they stand. -/

namespace Sys2Proof.Machine

/-- A refusal changes the port alone. -/
@[simp] theorem refuse_frame (target : Station) (kind : FrameKind) (reason : Reason) (detail : Byte) (s : State) :
    (refuse target kind reason detail s).loader = s.loader ∧
    (refuse target kind reason detail s).raster = s.raster ∧
    (refuse target kind reason detail s).intake = s.intake ∧
    (refuse target kind reason detail s).peers = s.peers ∧
    (refuse target kind reason detail s).crosspoint = s.crosspoint ∧
    (refuse target kind reason detail s).sets = s.sets ∧
    (refuse target kind reason detail s).monitor = s.monitor ∧
    (refuse target kind reason detail s).engine = s.engine ∧
    (refuse target kind reason detail s).keys = s.keys ∧
    (refuse target kind reason detail s).picture = s.picture ∧
    (refuse target kind reason detail s).tally = s.tally ∧
    (refuse target kind reason detail s).freeCount = s.freeCount ∧
    (refuse target kind reason detail s).pending = s.pending := by
  simp [refuse]

/-- Making STANDING pending changes the port and the repeat count. -/
@[simp] theorem pendStanding_frame (s : State) :
    (pendStanding s).loader = s.loader ∧
    (pendStanding s).raster = s.raster ∧
    (pendStanding s).intake = s.intake ∧
    (pendStanding s).crosspoint = s.crosspoint ∧
    (pendStanding s).sets = s.sets ∧
    (pendStanding s).monitor = s.monitor ∧
    (pendStanding s).engine = s.engine ∧
    (pendStanding s).keys = s.keys ∧
    (pendStanding s).picture = s.picture ∧
    (pendStanding s).tally = s.tally ∧
    (pendStanding s).freeCount = s.freeCount ∧
    (pendStanding s).pending = s.pending := by
  simp [pendStanding]

/-- A change of lever owner changes the intake and the engine alone. -/
@[simp] theorem setOwner_frame (o : Option Station) (s : State) :
    (setOwner o s).loader = s.loader ∧
    (setOwner o s).raster = s.raster ∧
    (setOwner o s).port = s.port ∧
    (setOwner o s).peers = s.peers ∧
    (setOwner o s).crosspoint = s.crosspoint ∧
    (setOwner o s).sets = s.sets ∧
    (setOwner o s).monitor = s.monitor ∧
    (setOwner o s).keys = s.keys ∧
    (setOwner o s).picture = s.picture ∧
    (setOwner o s).tally = s.tally ∧
    (setOwner o s).freeCount = s.freeCount ∧
    (setOwner o s).pending = s.pending := by
  unfold setOwner
  repeat' split
  all_goals simp

/-- Working the lever owner out changes the intake and the engine alone. -/
@[simp] theorem reviseOwner_frame (s : State) :
    (reviseOwner s).loader = s.loader ∧
    (reviseOwner s).raster = s.raster ∧
    (reviseOwner s).port = s.port ∧
    (reviseOwner s).peers = s.peers ∧
    (reviseOwner s).crosspoint = s.crosspoint ∧
    (reviseOwner s).sets = s.sets ∧
    (reviseOwner s).monitor = s.monitor ∧
    (reviseOwner s).keys = s.keys ∧
    (reviseOwner s).picture = s.picture ∧
    (reviseOwner s).tally = s.tally ∧
    (reviseOwner s).freeCount = s.freeCount ∧
    (reviseOwner s).pending = s.pending := by
  unfold reviseOwner
  repeat' split
  all_goals simp

/-- Resolving sources changes the resolver alone. -/
@[simp] theorem resolveSources_frame (s : State) :
    (resolveSources s).loader = s.loader ∧
    (resolveSources s).raster = s.raster ∧
    (resolveSources s).port = s.port ∧
    (resolveSources s).intake = s.intake ∧
    (resolveSources s).peers = s.peers ∧
    (resolveSources s).sets = s.sets ∧
    (resolveSources s).monitor = s.monitor ∧
    (resolveSources s).engine = s.engine ∧
    (resolveSources s).keys = s.keys ∧
    (resolveSources s).picture = s.picture ∧
    (resolveSources s).tally = s.tally ∧
    (resolveSources s).freeCount = s.freeCount ∧
    (resolveSources s).pending = s.pending := by
  simp [resolveSources]

/-- Deriving the source sets changes them alone. -/
@[simp] theorem deriveSets_frame (s : State) :
    (deriveSets s).loader = s.loader ∧
    (deriveSets s).raster = s.raster ∧
    (deriveSets s).port = s.port ∧
    (deriveSets s).intake = s.intake ∧
    (deriveSets s).peers = s.peers ∧
    (deriveSets s).crosspoint = s.crosspoint ∧
    (deriveSets s).monitor = s.monitor ∧
    (deriveSets s).engine = s.engine ∧
    (deriveSets s).keys = s.keys ∧
    (deriveSets s).picture = s.picture ∧
    (deriveSets s).tally = s.tally ∧
    (deriveSets s).freeCount = s.freeCount ∧
    (deriveSets s).pending = s.pending := by
  simp [deriveSets]

/-- Writing the progress changes the engine and the layers alone. -/
@[simp] theorem setProgress_frame (p : Nat) (s : State) :
    (setProgress p s).loader = s.loader ∧
    (setProgress p s).raster = s.raster ∧
    (setProgress p s).port = s.port ∧
    (setProgress p s).intake = s.intake ∧
    (setProgress p s).peers = s.peers ∧
    (setProgress p s).crosspoint = s.crosspoint ∧
    (setProgress p s).sets = s.sets ∧
    (setProgress p s).monitor = s.monitor ∧
    (setProgress p s).picture = s.picture ∧
    (setProgress p s).tally = s.tally ∧
    (setProgress p s).freeCount = s.freeCount ∧
    (setProgress p s).pending = s.pending := by
  simp [setProgress]

/-- The start of a transition changes the layers alone. -/
@[simp] theorem startTransition_frame (s : State) :
    (startTransition s).loader = s.loader ∧
    (startTransition s).raster = s.raster ∧
    (startTransition s).port = s.port ∧
    (startTransition s).intake = s.intake ∧
    (startTransition s).peers = s.peers ∧
    (startTransition s).crosspoint = s.crosspoint ∧
    (startTransition s).sets = s.sets ∧
    (startTransition s).monitor = s.monitor ∧
    (startTransition s).engine = s.engine ∧
    (startTransition s).picture = s.picture ∧
    (startTransition s).tally = s.tally ∧
    (startTransition s).freeCount = s.freeCount ∧
    (startTransition s).pending = s.pending := by
  simp [startTransition]

/-- A completion changes the engine, the layers and the resolver alone. -/
@[simp] theorem complete_frame (s : State) :
    (complete s).loader = s.loader ∧
    (complete s).raster = s.raster ∧
    (complete s).port = s.port ∧
    (complete s).intake = s.intake ∧
    (complete s).peers = s.peers ∧
    (complete s).sets = s.sets ∧
    (complete s).monitor = s.monitor ∧
    (complete s).picture = s.picture ∧
    (complete s).tally = s.tally ∧
    (complete s).freeCount = s.freeCount ∧
    (complete s).pending = s.pending := by
  simp [complete]

/-- An abandonment changes the engine and the layers alone. -/
@[simp] theorem abandon_frame (s : State) :
    (abandon s).loader = s.loader ∧
    (abandon s).raster = s.raster ∧
    (abandon s).port = s.port ∧
    (abandon s).intake = s.intake ∧
    (abandon s).peers = s.peers ∧
    (abandon s).crosspoint = s.crosspoint ∧
    (abandon s).sets = s.sets ∧
    (abandon s).monitor = s.monitor ∧
    (abandon s).picture = s.picture ∧
    (abandon s).tally = s.tally ∧
    (abandon s).freeCount = s.freeCount ∧
    (abandon s).pending = s.pending := by
  simp [abandon]

/-- A lever that is followed changes the engine, the layers and the resolver alone. -/
@[simp] theorem followLever_frame (d : Nat) (s : State) :
    (followLever d s).loader = s.loader ∧
    (followLever d s).raster = s.raster ∧
    (followLever d s).port = s.port ∧
    (followLever d s).intake = s.intake ∧
    (followLever d s).peers = s.peers ∧
    (followLever d s).sets = s.sets ∧
    (followLever d s).monitor = s.monitor ∧
    (followLever d s).picture = s.picture ∧
    (followLever d s).tally = s.tally ∧
    (followLever d s).freeCount = s.freeCount ∧
    (followLever d s).pending = s.pending := by
  unfold followLever
  repeat' split
  all_goals simp

/-- A lever evaluation in IDLE changes the engine, the layers and the resolver alone. -/
@[simp] theorem evaluateIdle_frame (position : Nat) (s : State) :
    (evaluateIdle position s).loader = s.loader ∧
    (evaluateIdle position s).raster = s.raster ∧
    (evaluateIdle position s).port = s.port ∧
    (evaluateIdle position s).intake = s.intake ∧
    (evaluateIdle position s).peers = s.peers ∧
    (evaluateIdle position s).sets = s.sets ∧
    (evaluateIdle position s).monitor = s.monitor ∧
    (evaluateIdle position s).picture = s.picture ∧
    (evaluateIdle position s).tally = s.tally ∧
    (evaluateIdle position s).freeCount = s.freeCount ∧
    (evaluateIdle position s).pending = s.pending := by
  simp only [evaluateIdle]
  repeat' split
  all_goals simp

/-- A lever evaluation in LEVER changes the engine, the layers and the resolver alone. -/
@[simp] theorem evaluateLever_frame (position : Nat) (s : State) :
    (evaluateLever position s).loader = s.loader ∧
    (evaluateLever position s).raster = s.raster ∧
    (evaluateLever position s).port = s.port ∧
    (evaluateLever position s).intake = s.intake ∧
    (evaluateLever position s).peers = s.peers ∧
    (evaluateLever position s).sets = s.sets ∧
    (evaluateLever position s).monitor = s.monitor ∧
    (evaluateLever position s).picture = s.picture ∧
    (evaluateLever position s).tally = s.tally ∧
    (evaluateLever position s).freeCount = s.freeCount ∧
    (evaluateLever position s).pending = s.pending := by
  simp only [evaluateLever]
  repeat' split
  all_goals simp

/-- A lever evaluation changes the engine, the layers and the resolver alone. -/
@[simp] theorem evaluate_frame (s : State) :
    (evaluate s).loader = s.loader ∧
    (evaluate s).raster = s.raster ∧
    (evaluate s).port = s.port ∧
    (evaluate s).intake = s.intake ∧
    (evaluate s).peers = s.peers ∧
    (evaluate s).sets = s.sets ∧
    (evaluate s).monitor = s.monitor ∧
    (evaluate s).picture = s.picture ∧
    (evaluate s).tally = s.tally ∧
    (evaluate s).freeCount = s.freeCount ∧
    (evaluate s).pending = s.pending := by
  unfold evaluate
  repeat' split
  all_goals simp

/-- Settling a run changes the engine, the layers and the resolver alone. -/
@[simp] theorem settleRun_frame (s : State) :
    (settleRun s).loader = s.loader ∧
    (settleRun s).raster = s.raster ∧
    (settleRun s).port = s.port ∧
    (settleRun s).intake = s.intake ∧
    (settleRun s).peers = s.peers ∧
    (settleRun s).sets = s.sets ∧
    (settleRun s).monitor = s.monitor ∧
    (settleRun s).picture = s.picture ∧
    (settleRun s).tally = s.tally ∧
    (settleRun s).freeCount = s.freeCount ∧
    (settleRun s).pending = s.pending := by
  simp only [settleRun]
  split
  all_goals simp

/-- The advance of a run changes the engine, the layers and the resolver alone. -/
@[simp] theorem advanceRun_frame (s : State) :
    (advanceRun s).loader = s.loader ∧
    (advanceRun s).raster = s.raster ∧
    (advanceRun s).port = s.port ∧
    (advanceRun s).intake = s.intake ∧
    (advanceRun s).peers = s.peers ∧
    (advanceRun s).sets = s.sets ∧
    (advanceRun s).monitor = s.monitor ∧
    (advanceRun s).picture = s.picture ∧
    (advanceRun s).tally = s.tally ∧
    (advanceRun s).freeCount = s.freeCount ∧
    (advanceRun s).pending = s.pending := by
  simp [advanceRun]

/-- The engine's advance changes the engine, the layers and the resolver alone. -/
@[simp] theorem advanceEngine_frame (s : State) :
    (advanceEngine s).loader = s.loader ∧
    (advanceEngine s).raster = s.raster ∧
    (advanceEngine s).port = s.port ∧
    (advanceEngine s).intake = s.intake ∧
    (advanceEngine s).peers = s.peers ∧
    (advanceEngine s).sets = s.sets ∧
    (advanceEngine s).monitor = s.monitor ∧
    (advanceEngine s).picture = s.picture ∧
    (advanceEngine s).tally = s.tally ∧
    (advanceEngine s).freeCount = s.freeCount ∧
    (advanceEngine s).pending = s.pending := by
  unfold advanceEngine
  repeat' split
  all_goals simp

/-- The beginning of a run changes the engine, the layers and the resolver alone. -/
@[simp] theorem beginRun_frame (p0 r : Nat) (s : State) :
    (beginRun p0 r s).loader = s.loader ∧
    (beginRun p0 r s).raster = s.raster ∧
    (beginRun p0 r s).port = s.port ∧
    (beginRun p0 r s).intake = s.intake ∧
    (beginRun p0 r s).peers = s.peers ∧
    (beginRun p0 r s).sets = s.sets ∧
    (beginRun p0 r s).monitor = s.monitor ∧
    (beginRun p0 r s).picture = s.picture ∧
    (beginRun p0 r s).tally = s.tally ∧
    (beginRun p0 r s).freeCount = s.freeCount ∧
    (beginRun p0 r s).pending = s.pending := by
  simp [beginRun]

/-- The advance of the key mixes changes the layers alone. -/
@[simp] theorem advanceKeys_frame (s : State) :
    (advanceKeys s).loader = s.loader ∧
    (advanceKeys s).raster = s.raster ∧
    (advanceKeys s).port = s.port ∧
    (advanceKeys s).intake = s.intake ∧
    (advanceKeys s).peers = s.peers ∧
    (advanceKeys s).crosspoint = s.crosspoint ∧
    (advanceKeys s).sets = s.sets ∧
    (advanceKeys s).monitor = s.monitor ∧
    (advanceKeys s).engine = s.engine ∧
    (advanceKeys s).picture = s.picture ∧
    (advanceKeys s).tally = s.tally ∧
    (advanceKeys s).freeCount = s.freeCount ∧
    (advanceKeys s).pending = s.pending := by
  simp [advanceKeys]

/-- The Monitor's advance changes the Monitor alone. -/
@[simp] theorem advanceMonitor_frame (s : State) :
    (advanceMonitor s).loader = s.loader ∧
    (advanceMonitor s).raster = s.raster ∧
    (advanceMonitor s).port = s.port ∧
    (advanceMonitor s).intake = s.intake ∧
    (advanceMonitor s).peers = s.peers ∧
    (advanceMonitor s).crosspoint = s.crosspoint ∧
    (advanceMonitor s).sets = s.sets ∧
    (advanceMonitor s).engine = s.engine ∧
    (advanceMonitor s).keys = s.keys ∧
    (advanceMonitor s).picture = s.picture ∧
    (advanceMonitor s).tally = s.tally ∧
    (advanceMonitor s).freeCount = s.freeCount ∧
    (advanceMonitor s).pending = s.pending := by
  unfold advanceMonitor
  repeat' split
  all_goals simp

/-- The refusal of a reverted bus changes the port alone. -/
@[simp] theorem refuseLoopBroken_frame (bus : Bus) (last : Option Station) (s : State) :
    (refuseLoopBroken bus last s).loader = s.loader ∧
    (refuseLoopBroken bus last s).raster = s.raster ∧
    (refuseLoopBroken bus last s).intake = s.intake ∧
    (refuseLoopBroken bus last s).peers = s.peers ∧
    (refuseLoopBroken bus last s).crosspoint = s.crosspoint ∧
    (refuseLoopBroken bus last s).sets = s.sets ∧
    (refuseLoopBroken bus last s).monitor = s.monitor ∧
    (refuseLoopBroken bus last s).engine = s.engine ∧
    (refuseLoopBroken bus last s).keys = s.keys ∧
    (refuseLoopBroken bus last s).picture = s.picture ∧
    (refuseLoopBroken bus last s).tally = s.tally ∧
    (refuseLoopBroken bus last s).freeCount = s.freeCount ∧
    (refuseLoopBroken bus last s).pending = s.pending := by
  unfold refuseLoopBroken
  repeat' split
  all_goals simp

/-- A reversion changes the resolver and the port alone. -/
@[simp] theorem revertBus_frame (named : List Source) (s : State) (bus : Bus) :
    (revertBus named s bus).loader = s.loader ∧
    (revertBus named s bus).raster = s.raster ∧
    (revertBus named s bus).intake = s.intake ∧
    (revertBus named s bus).peers = s.peers ∧
    (revertBus named s bus).sets = s.sets ∧
    (revertBus named s bus).monitor = s.monitor ∧
    (revertBus named s bus).engine = s.engine ∧
    (revertBus named s bus).keys = s.keys ∧
    (revertBus named s bus).picture = s.picture ∧
    (revertBus named s bus).tally = s.tally ∧
    (revertBus named s bus).freeCount = s.freeCount ∧
    (revertBus named s bus).pending = s.pending := by
  simp only [revertBus]
  split
  all_goals simp

/-- A reversion of several buses changes the resolver and the port alone. -/
@[simp] theorem revertBuses_frame (named : List Source) (buses : List Bus) (s : State) :
    (buses.foldl (revertBus named) s).loader = s.loader ∧
    (buses.foldl (revertBus named) s).raster = s.raster ∧
    (buses.foldl (revertBus named) s).intake = s.intake ∧
    (buses.foldl (revertBus named) s).peers = s.peers ∧
    (buses.foldl (revertBus named) s).sets = s.sets ∧
    (buses.foldl (revertBus named) s).monitor = s.monitor ∧
    (buses.foldl (revertBus named) s).engine = s.engine ∧
    (buses.foldl (revertBus named) s).keys = s.keys ∧
    (buses.foldl (revertBus named) s).picture = s.picture ∧
    (buses.foldl (revertBus named) s).tally = s.tally ∧
    (buses.foldl (revertBus named) s).freeCount = s.freeCount ∧
    (buses.foldl (revertBus named) s).pending = s.pending := by
  induction buses generalizing s with
  | nil => simp
  | cons b rest ih => simpa using ih (revertBus named s b)

/-- The breaking of a cycle changes the resolver and the port alone. -/
@[simp] theorem breakCycle_frame (s : State) :
    (breakCycle s).loader = s.loader ∧
    (breakCycle s).raster = s.raster ∧
    (breakCycle s).intake = s.intake ∧
    (breakCycle s).peers = s.peers ∧
    (breakCycle s).sets = s.sets ∧
    (breakCycle s).monitor = s.monitor ∧
    (breakCycle s).engine = s.engine ∧
    (breakCycle s).keys = s.keys ∧
    (breakCycle s).picture = s.picture ∧
    (breakCycle s).tally = s.tally ∧
    (breakCycle s).freeCount = s.freeCount ∧
    (breakCycle s).pending = s.pending := by
  unfold breakCycle
  repeat' split
  all_goals simp

/-- A frame that meets the queue changes the intake or the port alone. -/
@[simp] theorem joinQueue_frame (sender : Station) (detail : Byte) (a : Action) (s : State) :
    (joinQueue sender detail a s).loader = s.loader ∧
    (joinQueue sender detail a s).raster = s.raster ∧
    (joinQueue sender detail a s).peers = s.peers ∧
    (joinQueue sender detail a s).crosspoint = s.crosspoint ∧
    (joinQueue sender detail a s).sets = s.sets ∧
    (joinQueue sender detail a s).monitor = s.monitor ∧
    (joinQueue sender detail a s).engine = s.engine ∧
    (joinQueue sender detail a s).keys = s.keys ∧
    (joinQueue sender detail a s).picture = s.picture ∧
    (joinQueue sender detail a s).tally = s.tally ∧
    (joinQueue sender detail a s).freeCount = s.freeCount ∧
    (joinQueue sender detail a s).pending = s.pending := by
  unfold joinQueue
  repeat' split
  all_goals simp

/-- A duplicate arrival changes the station state or the duplicate flag alone. -/
@[simp] theorem hearDuplicate_frame (s : State) :
    (hearDuplicate s).raster = s.raster ∧
    (hearDuplicate s).port = s.port ∧
    (hearDuplicate s).intake = s.intake ∧
    (hearDuplicate s).crosspoint = s.crosspoint ∧
    (hearDuplicate s).sets = s.sets ∧
    (hearDuplicate s).monitor = s.monitor ∧
    (hearDuplicate s).engine = s.engine ∧
    (hearDuplicate s).keys = s.keys ∧
    (hearDuplicate s).picture = s.picture ∧
    (hearDuplicate s).tally = s.tally ∧
    (hearDuplicate s).freeCount = s.freeCount ∧
    (hearDuplicate s).pending = s.pending := by
  unfold hearDuplicate
  repeat' split
  all_goals simp

/-- A STANDING changes the Peer View and, through the lever owner, the intake and the engine alone. -/
@[simp] theorem recordStanding_frame (sender : Station) (m : MixFields) (s : State) :
    (recordStanding sender m s).loader = s.loader ∧
    (recordStanding sender m s).raster = s.raster ∧
    (recordStanding sender m s).port = s.port ∧
    (recordStanding sender m s).crosspoint = s.crosspoint ∧
    (recordStanding sender m s).sets = s.sets ∧
    (recordStanding sender m s).monitor = s.monitor ∧
    (recordStanding sender m s).keys = s.keys ∧
    (recordStanding sender m s).picture = s.picture ∧
    (recordStanding sender m s).tally = s.tally ∧
    (recordStanding sender m s).freeCount = s.freeCount ∧
    (recordStanding sender m s).pending = s.pending := by
  simp [recordStanding]

/-- A DELEGATE changes the Peer View and, through the lever owner, the intake and the engine alone. -/
@[simp] theorem recordDelegate_frame (sender : Station) (d : Option Station) (s : State) :
    (recordDelegate sender d s).loader = s.loader ∧
    (recordDelegate sender d s).raster = s.raster ∧
    (recordDelegate sender d s).port = s.port ∧
    (recordDelegate sender d s).crosspoint = s.crosspoint ∧
    (recordDelegate sender d s).sets = s.sets ∧
    (recordDelegate sender d s).monitor = s.monitor ∧
    (recordDelegate sender d s).keys = s.keys ∧
    (recordDelegate sender d s).picture = s.picture ∧
    (recordDelegate sender d s).tally = s.tally ∧
    (recordDelegate sender d s).freeCount = s.freeCount ∧
    (recordDelegate sender d s).pending = s.pending := by
  simp [recordDelegate]

/-- A frame heard changes the Peer View alone. -/
@[simp] theorem recordHeard_frame (sender : Station) (s : State) :
    (recordHeard sender s).loader = s.loader ∧
    (recordHeard sender s).raster = s.raster ∧
    (recordHeard sender s).port = s.port ∧
    (recordHeard sender s).intake = s.intake ∧
    (recordHeard sender s).crosspoint = s.crosspoint ∧
    (recordHeard sender s).sets = s.sets ∧
    (recordHeard sender s).monitor = s.monitor ∧
    (recordHeard sender s).engine = s.engine ∧
    (recordHeard sender s).keys = s.keys ∧
    (recordHeard sender s).picture = s.picture ∧
    (recordHeard sender s).tally = s.tally ∧
    (recordHeard sender s).freeCount = s.freeCount ∧
    (recordHeard sender s).pending = s.pending := by
  simp [recordHeard]

/-- An accepted command changes the intake, the port and, through the lever owner, the engine alone. -/
@[simp] theorem acceptCommand_frame (sender : Station) (detail : Byte) (a : Action) (s : State) :
    (acceptCommand sender detail a s).loader = s.loader ∧
    (acceptCommand sender detail a s).raster = s.raster ∧
    (acceptCommand sender detail a s).peers = s.peers ∧
    (acceptCommand sender detail a s).crosspoint = s.crosspoint ∧
    (acceptCommand sender detail a s).sets = s.sets ∧
    (acceptCommand sender detail a s).monitor = s.monitor ∧
    (acceptCommand sender detail a s).keys = s.keys ∧
    (acceptCommand sender detail a s).picture = s.picture ∧
    (acceptCommand sender detail a s).tally = s.tally ∧
    (acceptCommand sender detail a s).freeCount = s.freeCount ∧
    (acceptCommand sender detail a s).pending = s.pending := by
  have own : ∀ t, ownLever sender a s = some t →
      t.loader = s.loader ∧
      t.raster = s.raster ∧
      t.peers = s.peers ∧
      t.crosspoint = s.crosspoint ∧
      t.sets = s.sets ∧
      t.monitor = s.monitor ∧
      t.keys = s.keys ∧
      t.picture = s.picture ∧
      t.tally = s.tally ∧
      t.freeCount = s.freeCount ∧
      t.pending = s.pending := by
    intro t h
    unfold ownLever at h
    repeat' split at h
    all_goals simp at h
    all_goals subst h
    all_goals simp
  unfold acceptCommand
  repeat' split
  · simp
  · next t h => simp [own t h]
  · simp

/-- A panel command, once the Peer View has taken it, changes the intake, the port and the engine alone. -/
@[simp] theorem takeCommand_frame (sender target : Station) (kind : FrameKind) (detail : Byte) (parsed : Option Action) (s : State) :
    (takeCommand sender target kind detail parsed s).loader = s.loader ∧
    (takeCommand sender target kind detail parsed s).raster = s.raster ∧
    (takeCommand sender target kind detail parsed s).peers = s.peers ∧
    (takeCommand sender target kind detail parsed s).crosspoint = s.crosspoint ∧
    (takeCommand sender target kind detail parsed s).sets = s.sets ∧
    (takeCommand sender target kind detail parsed s).monitor = s.monitor ∧
    (takeCommand sender target kind detail parsed s).keys = s.keys ∧
    (takeCommand sender target kind detail parsed s).picture = s.picture ∧
    (takeCommand sender target kind detail parsed s).tally = s.tally ∧
    (takeCommand sender target kind detail parsed s).freeCount = s.freeCount ∧
    (takeCommand sender target kind detail parsed s).pending = s.pending := by
  unfold takeCommand
  repeat' split
  all_goals simp

/-- An expiry changes the Peer View and, through the lever owner, the intake and the engine alone. -/
@[simp] theorem expireWhere_frame (named : PeerEntry → Bool) (s : State) :
    (expireWhere named s).loader = s.loader ∧
    (expireWhere named s).raster = s.raster ∧
    (expireWhere named s).port = s.port ∧
    (expireWhere named s).crosspoint = s.crosspoint ∧
    (expireWhere named s).sets = s.sets ∧
    (expireWhere named s).monitor = s.monitor ∧
    (expireWhere named s).keys = s.keys ∧
    (expireWhere named s).picture = s.picture ∧
    (expireWhere named s).tally = s.tally ∧
    (expireWhere named s).freeCount = s.freeCount ∧
    (expireWhere named s).pending = s.pending := by
  simp [expireWhere]

/-- The expiries of a turn change the Peer View, the intake and the engine alone. -/
@[simp] theorem expireUpTo_frame (c j : Nat) (s : State) :
    (expireUpTo c j s).loader = s.loader ∧
    (expireUpTo c j s).raster = s.raster ∧
    (expireUpTo c j s).port = s.port ∧
    (expireUpTo c j s).crosspoint = s.crosspoint ∧
    (expireUpTo c j s).sets = s.sets ∧
    (expireUpTo c j s).monitor = s.monitor ∧
    (expireUpTo c j s).keys = s.keys ∧
    (expireUpTo c j s).picture = s.picture ∧
    (expireUpTo c j s).tally = s.tally ∧
    (expireUpTo c j s).freeCount = s.freeCount ∧
    (expireUpTo c j s).pending = s.pending := by
  simp [expireUpTo]

/-- The opening of a field changes the generator, the frame budget and the free-value count alone. -/
@[simp] theorem openField_frame (s : State) :
    (openField s).loader = s.loader ∧
    (openField s).intake = s.intake ∧
    (openField s).peers = s.peers ∧
    (openField s).crosspoint = s.crosspoint ∧
    (openField s).sets = s.sets ∧
    (openField s).monitor = s.monitor ∧
    (openField s).engine = s.engine ∧
    (openField s).keys = s.keys ∧
    (openField s).picture = s.picture ∧
    (openField s).tally = s.tally ∧
    (openField s).pending = s.pending := by
  simp [openField]

/-- The advances change the Peer View, the engine, the layers, the resolver and the Monitor alone. -/
@[simp] theorem advanceAll_frame (s : State) :
    (advanceAll s).loader = s.loader ∧
    (advanceAll s).raster = s.raster ∧
    (advanceAll s).port = s.port ∧
    (advanceAll s).intake = s.intake ∧
    (advanceAll s).sets = s.sets ∧
    (advanceAll s).picture = s.picture ∧
    (advanceAll s).tally = s.tally ∧
    (advanceAll s).freeCount = s.freeCount ∧
    (advanceAll s).pending = s.pending := by
  simp [advanceAll]

/-- Entering RUNNING changes the station state, the port, the repeat count and the lever owner alone. -/
@[simp] theorem enterRunning_frame (s : State) :
    (enterRunning s).raster = s.raster ∧
    (enterRunning s).crosspoint = s.crosspoint ∧
    (enterRunning s).sets = s.sets ∧
    (enterRunning s).monitor = s.monitor ∧
    (enterRunning s).keys = s.keys ∧
    (enterRunning s).picture = s.picture ∧
    (enterRunning s).tally = s.tally ∧
    (enterRunning s).freeCount = s.freeCount ∧
    (enterRunning s).pending = s.pending := by
  simp [enterRunning]

/-- Counting LISTENING changes the station state and count, the port, the repeat count and the lever owner alone. -/
@[simp] theorem countListening_frame (s : State) :
    (countListening s).raster = s.raster ∧
    (countListening s).crosspoint = s.crosspoint ∧
    (countListening s).sets = s.sets ∧
    (countListening s).monitor = s.monitor ∧
    (countListening s).keys = s.keys ∧
    (countListening s).picture = s.picture ∧
    (countListening s).tally = s.tally ∧
    (countListening s).freeCount = s.freeCount ∧
    (countListening s).pending = s.pending := by
  simp only [countListening]
  split
  all_goals simp

/-- Deriving a field changes the effective sources, the source sets and the tally alone. -/
@[simp] theorem deriveField_frame (s : State) :
    (deriveField s).loader = s.loader ∧
    (deriveField s).raster = s.raster ∧
    (deriveField s).port = s.port ∧
    (deriveField s).intake = s.intake ∧
    (deriveField s).peers = s.peers ∧
    (deriveField s).monitor = s.monitor ∧
    (deriveField s).engine = s.engine ∧
    (deriveField s).keys = s.keys ∧
    (deriveField s).picture = s.picture ∧
    (deriveField s).freeCount = s.freeCount ∧
    (deriveField s).pending = s.pending := by
  simp [deriveField]

/-- Keeping the announced values changes the Peer View alone. -/
@[simp] theorem noteAnnounced_frame (s : State) :
    (noteAnnounced s).loader = s.loader ∧
    (noteAnnounced s).raster = s.raster ∧
    (noteAnnounced s).port = s.port ∧
    (noteAnnounced s).intake = s.intake ∧
    (noteAnnounced s).crosspoint = s.crosspoint ∧
    (noteAnnounced s).sets = s.sets ∧
    (noteAnnounced s).monitor = s.monitor ∧
    (noteAnnounced s).engine = s.engine ∧
    (noteAnnounced s).keys = s.keys ∧
    (noteAnnounced s).picture = s.picture ∧
    (noteAnnounced s).tally = s.tally ∧
    (noteAnnounced s).freeCount = s.freeCount ∧
    (noteAnnounced s).pending = s.pending := by
  simp [noteAnnounced]

/-- A repeat of STANDING changes the port and the repeat count alone. -/
@[simp] theorem repeatStanding_frame (s : State) :
    (repeatStanding s).loader = s.loader ∧
    (repeatStanding s).raster = s.raster ∧
    (repeatStanding s).intake = s.intake ∧
    (repeatStanding s).crosspoint = s.crosspoint ∧
    (repeatStanding s).sets = s.sets ∧
    (repeatStanding s).monitor = s.monitor ∧
    (repeatStanding s).engine = s.engine ∧
    (repeatStanding s).keys = s.keys ∧
    (repeatStanding s).picture = s.picture ∧
    (repeatStanding s).tally = s.tally ∧
    (repeatStanding s).freeCount = s.freeCount ∧
    (repeatStanding s).pending = s.pending := by
  unfold repeatStanding
  repeat' split
  all_goals simp

/-- The comparison of a field changes the port and the repeat count alone. -/
@[simp] theorem announceField_frame (s : State) :
    (announceField s).loader = s.loader ∧
    (announceField s).raster = s.raster ∧
    (announceField s).intake = s.intake ∧
    (announceField s).crosspoint = s.crosspoint ∧
    (announceField s).sets = s.sets ∧
    (announceField s).monitor = s.monitor ∧
    (announceField s).engine = s.engine ∧
    (announceField s).keys = s.keys ∧
    (announceField s).picture = s.picture ∧
    (announceField s).tally = s.tally ∧
    (announceField s).freeCount = s.freeCount ∧
    (announceField s).pending = s.pending := by
  unfold announceField
  repeat' split
  all_goals simp

/-- The start of a line changes the started lines, the Monitor and the outputs alone. -/
@[simp] theorem beginLine_frame (s : State) :
    (beginLine s).loader = s.loader ∧
    (beginLine s).port = s.port ∧
    (beginLine s).intake = s.intake ∧
    (beginLine s).peers = s.peers ∧
    (beginLine s).crosspoint = s.crosspoint ∧
    (beginLine s).sets = s.sets ∧
    (beginLine s).engine = s.engine ∧
    (beginLine s).keys = s.keys ∧
    (beginLine s).tally = s.tally ∧
    (beginLine s).freeCount = s.freeCount ∧
    (beginLine s).pending = s.pending := by
  simp only [beginLine]
  split
  all_goals simp

/-- The start of the next line changes the generator, the Monitor and the outputs alone. -/
@[simp] theorem startLine_frame (s : State) :
    (startLine s).loader = s.loader ∧
    (startLine s).port = s.port ∧
    (startLine s).intake = s.intake ∧
    (startLine s).peers = s.peers ∧
    (startLine s).crosspoint = s.crosspoint ∧
    (startLine s).sets = s.sets ∧
    (startLine s).engine = s.engine ∧
    (startLine s).keys = s.keys ∧
    (startLine s).tally = s.tally ∧
    (startLine s).freeCount = s.freeCount ∧
    (startLine s).pending = s.pending := by
  simp [startLine]

/-- A move of the counters changes the generator and, where a line starts, the Monitor and the outputs alone. -/
@[simp] theorem moveCounters_frame (r : Raster) (s : State) :
    (moveCounters r s).loader = s.loader ∧
    (moveCounters r s).port = s.port ∧
    (moveCounters r s).intake = s.intake ∧
    (moveCounters r s).peers = s.peers ∧
    (moveCounters r s).crosspoint = s.crosspoint ∧
    (moveCounters r s).sets = s.sets ∧
    (moveCounters r s).engine = s.engine ∧
    (moveCounters r s).keys = s.keys ∧
    (moveCounters r s).tally = s.tally ∧
    (moveCounters r s).freeCount = s.freeCount ∧
    (moveCounters r s).pending = s.pending := by
  unfold moveCounters
  split
  all_goals simp

/-- The start of a line moves no counter: of the generator it changes the started lines alone. -/
theorem beginLine_raster (s : State) :
    (beginLine s).raster = { s.raster with startedLines := (beginLine s).raster.startedLines } := by
  simp only [beginLine]
  split
  all_goals simp [Raster.noteStart]

/-- A move of the counters puts them where it says. -/
theorem moveCounters_raster (r : Raster) (s : State) :
    (moveCounters r s).raster = { r with startedLines := (moveCounters r s).raster.startedLines } := by
  unfold moveCounters
  split
  · simp
  · rw [beginLine_raster]
    simp

/-- The beginning of an attempt changes the port alone. -/
@[simp] theorem beginAttempt_frame (s : State) :
    (beginAttempt s).loader = s.loader ∧
    (beginAttempt s).raster = s.raster ∧
    (beginAttempt s).intake = s.intake ∧
    (beginAttempt s).peers = s.peers ∧
    (beginAttempt s).crosspoint = s.crosspoint ∧
    (beginAttempt s).sets = s.sets ∧
    (beginAttempt s).monitor = s.monitor ∧
    (beginAttempt s).engine = s.engine ∧
    (beginAttempt s).keys = s.keys ∧
    (beginAttempt s).picture = s.picture ∧
    (beginAttempt s).tally = s.tally ∧
    (beginAttempt s).freeCount = s.freeCount ∧
    (beginAttempt s).pending = s.pending := by
  simp only [beginAttempt]
  repeat' split
  all_goals simp

/-- The end of LOADING leaves the port, the Peer View, the source sets and the tally as they stand. -/
@[simp] theorem applyConfiguration_frame (c : Configuration) (isDefault : Bool) (s : State) :
    (applyConfiguration c isDefault s).port = s.port ∧
    (applyConfiguration c isDefault s).peers = s.peers ∧
    (applyConfiguration c isDefault s).sets = s.sets ∧
    (applyConfiguration c isDefault s).tally = s.tally ∧
    (applyConfiguration c isDefault s).freeCount = s.freeCount ∧
    (applyConfiguration c isDefault s).pending = s.pending := by
  simp [applyConfiguration]

/-- An entry that its owner applies changes the engine, the layers, the resolver or the Monitor alone. -/
theorem offer_applied_frame (e : Entry) (s t : State) (h : offer e s = .applied t) :
    t.loader = s.loader ∧
    t.raster = s.raster ∧
    t.port = s.port ∧
    t.peers = s.peers ∧
    t.sets = s.sets ∧
    t.picture = s.picture ∧
    t.tally = s.tally ∧
    t.freeCount = s.freeCount ∧
    t.pending = s.pending ∧ t.intake = s.intake := by
  unfold offer at h
  split at h
  case h_1 => unfold offerSelect at h; (repeat' split at h) <;> cases h <;> simp
  case h_2 => unfold offerTakeCut at h; (repeat' split at h) <;> cases h <;> simp
  case h_3 => unfold offerTakeAuto at h; (repeat' split at h) <;> cases h <;> simp
  case h_4 => unfold offerLever at h; (repeat' split at h) <;> cases h <;> simp
  case h_5 => unfold offerTranset at h; (repeat' split at h) <;> cases h <;> simp
  case h_6 => unfold offerNextsel at h; (repeat' split at h) <;> cases h <;> simp
  case h_7 => simp only [offerKeytake] at h; (repeat' split at h) <;> cases h <;> simp
  case h_8 => simp only [offerKeyset] at h; (repeat' split at h) <;> cases h <;> simp
  case h_9 => simp only [offerRestore] at h; (repeat' split at h) <;> cases h <;> simp

/-- Offering entries changes neither the loader, the generator, the source sets, the outputs, the tally nor the counts of the model. -/
theorem offerAll_frame (c : Nat) (es : List Entry) : ∀ (j : Nat) (d : List Entry) (s : State),
    (offerAll c j es d s).1.loader = s.loader ∧
    (offerAll c j es d s).1.raster = s.raster ∧
    (offerAll c j es d s).1.sets = s.sets ∧
    (offerAll c j es d s).1.picture = s.picture ∧
    (offerAll c j es d s).1.tally = s.tally ∧
    (offerAll c j es d s).1.freeCount = s.freeCount ∧
    (offerAll c j es d s).1.pending = s.pending := by
  induction es with
  | nil => intro j d s; simp [offerAll]
  | cons e rest ih =>
    intro j d s
    have he := expireUpTo_frame c j s
    simp only [offerAll]
    cases ho : offer e (expireUpTo c j s) with
    | applied t =>
      have ht := offer_applied_frame e _ t ho
      simpa [settleAnswer, ht, he] using ih (j + 1) d t
    | deferred => simpa [settleAnswer, he] using ih (j + 1) (d ++ [e]) (expireUpTo c j s)
    | refused reason detail =>
      simpa [settleAnswer, he] using ih (j + 1) d (refuse e.sender e.action.frameKind reason detail (expireUpTo c j s))

/-- A switch point opens the field where the counters stand and draws no line. -/
theorem takeSwitchPoint_frame (s : State) :
    (takeSwitchPoint s).raster = s.raster.openField ∧
    (takeSwitchPoint s).picture = s.picture ∧
    (takeSwitchPoint s).freeCount = s.freeCount + 1 ∧
    (takeSwitchPoint s).pending = s.pending := by
  simp only [takeSwitchPoint]
  split
  · simp [openField]
  · unfold workField
    split
    · simp [openField]
    · simp [runField, offerDue, offerAll_frame, openField]
    · simp [openField]
    · simp [openField]

end Sys2Proof.Machine
end

