-- ==== Sys2Proof/Laws/Operations.lean ====
section
/-! SUPPORT. What each shared operation does when it acts: reads after writes, the lever owner, the queue, the Peer View's entries, and the
delivery of an arrival. -/

namespace Sys2Proof.Machine

/-! ## The reset input -/

/-- With the reset input released, an event has its effect. -/
theorem whenReleased_released (f : State → State) (s : State) (h : s.loader.inputAsserted = false) :
    whenReleased f s = .next (f s) := by
  simp [whenReleased, h]

/-- While the reset input is asserted, an event has none. -/
theorem whenReleased_asserted (f : State → State) (s : State) (h : s.loader.inputAsserted = true) : whenReleased f s = .next s := by
  simp [whenReleased, h]

/-! ## Reads after writes -/

@[simp] theorem Buses.get_set_same (b : Buses) (bus : Bus) (r : BusRecord) : (b.set bus r).get bus = r := by cases bus <;> rfl

@[simp] theorem Buses.get_set_other (b : Buses) (bus other : Bus) (r : BusRecord) (h : other ≠ bus) :
    (b.set bus r).get other = b.get other := by
  cases bus <;> cases other <;> first | rfl | exact absurd rfl h

@[simp] theorem Buses.get_map (f : BusRecord → BusRecord) (b : Buses) (bus : Bus) : (b.map f).get bus = f (b.get bus) := by
  cases bus <;> rfl

@[simp] theorem KeyUnit.get_set_same (k : KeyUnit) (l : Layer) (r : LayerRecord) : (k.set l r).get l = r := by cases l <;> rfl

@[simp] theorem KeyUnit.get_set_other (k : KeyUnit) (l other : Layer) (r : LayerRecord) (h : other ≠ l) :
    (k.set l r).get other = k.get other := by
  cases l <;> cases other <;> first | rfl | exact absurd rfl h

@[simp] theorem KeyUnit.set_stack (k : KeyUnit) (l : Layer) (r : LayerRecord) : (k.set l r).stack = k.stack := by cases l <;> rfl

@[simp] theorem KeyUnit.get_mapLayers (f : Layer → LayerRecord → LayerRecord) (k : KeyUnit) (l : Layer) :
    (k.mapLayers f).get l = f l (k.get l) := by
  cases l <;> rfl

@[simp] theorem KeyUnit.mapLayers_stack (f : Layer → LayerRecord → LayerRecord) (k : KeyUnit) : (k.mapLayers f).stack = k.stack := rfl

/-- An input's record after one input's record is changed. -/
theorem Monitor.get_modify (m : Monitor) (i j : InputNo) (f : InputRecord → InputRecord) (h : m.inputs.length = 12) :
    (m.modify i f).get j = if j = i then f (m.get i) else m.get j := by
  have hi : i.val < m.inputs.length := by omega
  simp only [Monitor.get, Monitor.modify]
  by_cases hj : j = i
  · subst hj
    simp [hi]
  · have hn : i.val ≠ j.val := fun e => hj (Fin.ext e.symm)
    simp [hj, hn]

@[simp] theorem Monitor.modify_length (m : Monitor) (i : InputNo) (f : InputRecord → InputRecord) :
    (m.modify i f).inputs.length = m.inputs.length := by
  simp [Monitor.modify]

/-! ## The port's refusal queue -/

/-- A refusal joins the queue while it holds fewer than 4 (R136). -/
theorem refuse_refusals (target : Station) (kind : FrameKind) (reason : Reason) (detail : Byte) (s : State) :
    (refuse target kind reason detail s).port.refusals =
      if s.port.refusals.length < 4 then
        s.port.refusals ++ [{ target := target, kind := kind, reason := reason, detail := detail, errors := 0 }]
      else s.port.refusals := by
  simp only [refuse, Port.refuse, Config.refusalCapacity, State.setPort]
  by_cases h : s.port.refusals.length < 4 <;> simp [h]

/-! ## The lever owner -/

/-- The owner recorded is the owner named. -/
@[simp] theorem setOwner_leverOwner (o : Option Station) (s : State) : (setOwner o s).intake.leverOwner = o := by
  unfold setOwner
  split
  · assumption
  · rfl

/-- Recording an owner changes no other part of the intake. -/
theorem setOwner_intake (o : Option Station) (s : State) : (setOwner o s).intake = { s.intake with leverOwner := o } := by
  unfold setOwner
  split
  · next h => rw [← h]
  · rfl

/-- The engine is disengaged by a change of owner and by nothing else (R41). -/
theorem setOwner_engine (o : Option Station) (s : State) :
    (setOwner o s).engine = if s.intake.leverOwner = o then s.engine else s.engine.disengage := by
  unfold setOwner
  split <;> simp_all

/-- Under FIXED in RUNNING the owner is the lowest-numbered panel that may own the lever (R154). -/
theorem reviseOwner_fixed (s : State) (h : s.loader.state = .running) (hp : s.intake.leverPolicy = .fixed) :
    reviseOwner s = setOwner s.lowestOwner s := by
  simp [reviseOwner, h, hp]

/-- Outside RUNNING the owner stands (R163). -/
theorem reviseOwner_outside (s : State) (h : s.loader.state ≠ .running) : reviseOwner s = s := by
  simp [reviseOwner, h]

/-- Under LATEST in RUNNING the owner stands for as long as it may own the lever (R155, R156). -/
theorem reviseOwner_latest (s : State) (h : s.loader.state = .running) (hp : s.intake.leverPolicy = .latest) :
    reviseOwner s = setOwner (s.intake.leverOwner.filter fun p => s.mayOwn p) s := by
  simp only [reviseOwner, h, hp]
  cases ho : s.intake.leverOwner with
  | none => simp [setOwner, ho]
  | some p =>
    by_cases hm : s.mayOwn p = true
    · simp [setOwner, ho, hm, Option.filter]
    · simp [hm, Option.filter]

/-! ## The Field Action Queue -/

/-- An entry with the coalescing key of an action waits. -/
theorem holdsKey_iff (q : List Entry) (a : Action) :
    holdsKey q a = true ↔ ∃ e ∈ q, e.action.key ≠ none ∧ e.action.key = a.key := by
  unfold holdsKey
  cases hk : a.key with
  | none => simp
  | some k =>
    simp only [List.any_eq_true, Entry.hasKey, beq_iff_eq]
    constructor
    · rintro ⟨e, he, h⟩
      exact ⟨e, he, by simp [h], h⟩
    · rintro ⟨e, he, -, h⟩
      exact ⟨e, he, h⟩

/-- What coalescing leaves of the queue. -/
theorem withoutKey_eq (q : List Entry) (a : Action) :
    withoutKey q a = q.filter fun e => !(e.action.key.isSome && e.action.key == a.key) := by
  unfold withoutKey
  cases hk : a.key with
  | none =>
    refine (List.filter_eq_self.2 fun e _ => ?_).symm
    cases e.action.key <;> simp
  | some k =>
    refine List.filter_congr fun e _ => ?_
    simp only [Entry.hasKey]
    cases e.action.key <;> simp

/-- The queue takes an action whose key waits, or any action while it holds fewer than 16 (R159). -/
theorem takesAction_iff (q : List Entry) (a : Action) :
    takesAction q a = true ↔ (∃ e ∈ q, e.action.key ≠ none ∧ e.action.key = a.key) ∨ q.length < 16 := by
  simp only [takesAction, Bool.or_eq_true, holdsKey_iff, decide_eq_true_eq]
  rfl

/-- An action that is taken joins the tail with its due switch point. -/
theorem joinQueue_taken (sender : Station) (detail : Byte) (a : Action) (s : State) (h : takesAction s.intake.queue a = true) :
    joinQueue sender detail a s =
      s.setIntake { s.intake with queue := withoutKey s.intake.queue a ++ [⟨a, sender, s.raster.due⟩] } := by
  simp [joinQueue, h, joined]

/-- An action that is not taken is refused with QUEUE_FULL. -/
theorem joinQueue_full (sender : Station) (detail : Byte) (a : Action) (s : State) (h : takesAction s.intake.queue a = false) :
    joinQueue sender detail a s = refuse sender a.frameKind .queueFull detail s := by
  simp [joinQueue, h]

/-! ## The Peer View's entries -/

/-- The entries after one is put in: it, and the others that were there. -/
theorem mem_putEntry {e x : PeerEntry} {l : List PeerEntry} (h : x ∈ putEntry e l) : x = e ∨ x ∈ l := by
  induction l with
  | nil => exact .inl (List.mem_singleton.1 h)
  | cons y rest ih =>
    unfold putEntry at h
    split at h
    · exact (List.mem_cons.1 h).imp id id
    · split at h
      · exact (List.mem_cons.1 h).imp id fun h => List.mem_cons_of_mem _ h
      · rcases List.mem_cons.1 h with h | h
        · exact .inr (h ▸ List.mem_cons_self ..)
        · exact (ih h).imp id fun h => List.mem_cons_of_mem _ h

/-- The entry put in is the one found for its station. -/
theorem find_putEntry_same (e : PeerEntry) (l : List PeerEntry) :
    (putEntry e l).find? (fun x => x.station == e.station) = some e := by
  induction l with
  | nil => simp [putEntry]
  | cons y rest ih =>
    unfold putEntry
    split
    · simp
    · split
      · simp
      · next h => simp [h, ih]

/-- The entries found for other stations stand. -/
theorem find_putEntry_other (e : PeerEntry) (l : List PeerEntry) (p : Station) (hp : p ≠ e.station) :
    (putEntry e l).find? (fun x => x.station == p) = l.find? (fun x => x.station == p) := by
  have he : (e.station == p) = false := by simpa using Ne.symm hp
  induction l with
  | nil => simp [putEntry, he]
  | cons y rest ih =>
    unfold putEntry
    split
    · simp [List.find?_cons, he]
    · split
      · next h => simp [he, h]
      · simp [List.find?_cons, ih]

/-- Putting an entry in keeps the entries in rising station order, one to a station. -/
theorem pairwise_putEntry (e : PeerEntry) (l : List PeerEntry) (h : l.Pairwise fun a b => a.station < b.station) :
    (putEntry e l).Pairwise fun a b => a.station < b.station := by
  induction l with
  | nil => simp [putEntry]
  | cons y rest ih =>
    obtain ⟨hy, hr⟩ := List.pairwise_cons.1 h
    unfold putEntry
    split
    · next hlt =>
      refine List.pairwise_cons.2 ⟨fun b hb => ?_, h⟩
      rcases List.mem_cons.1 hb with rfl | hb
      · exact hlt
      · exact lt_trans hlt (hy b hb)
    · split
      · next heq => exact List.pairwise_cons.2 ⟨fun b hb => heq ▸ hy b hb, hr⟩
      · next hnl hne =>
        refine List.pairwise_cons.2 ⟨fun b hb => ?_, ih hr⟩
        rcases mem_putEntry hb with rfl | hb
        · exact lt_of_le_of_ne (not_lt.1 hnl) hne
        · exact hy b hb

@[simp] theorem PeerView.find_put_same (v : PeerView) (e : PeerEntry) : (v.put e).find e.station = some e := find_putEntry_same e _

theorem PeerView.find_put_other (v : PeerView) (e : PeerEntry) (p : Station) (h : p ≠ e.station) : (v.put e).find p = v.find p :=
  find_putEntry_other e _ p h

/-- A refreshed station keeps its kind and fields, or becomes a panel with no delegation (R165). -/
theorem PeerView.find_refresh (v : PeerView) (p : Station) :
    (v.refresh p).find p =
      some (match v.find p with
        | some e => { e with station := p, age := 0 }
        | none => { station := p, age := 0, kind := .panel none }) := by
  unfold PeerView.refresh
  cases hf : v.find p with
  | none => exact PeerView.find_put_same v { station := p, age := 0, kind := .panel none }
  | some e => exact PeerView.find_put_same v { e with station := p, age := 0 }

theorem PeerView.find_refresh_other (v : PeerView) (p q : Station) (h : q ≠ p) : (v.refresh p).find q = v.find q := by
  unfold PeerView.refresh
  split <;> exact PeerView.find_put_other _ _ _ h

/-- Refreshing a station changes no delegation. -/
@[simp] theorem PeerView.delegation_refresh (v : PeerView) (p q : Station) : (v.refresh p).delegation q = v.delegation q := by
  unfold PeerView.delegation
  by_cases h : q = p
  · subst h
    rw [PeerView.find_refresh]
    cases v.find q with
    | none => rfl
    | some e => rcases e with ⟨_, _, _ | _⟩ <;> rfl
  · rw [PeerView.find_refresh_other _ _ _ h]

/-! ## Moves of the counters (R115, R124, R180) -/

/-- A reload at deviation 0 moves no counter and starts no line. -/
theorem reload_still (fi : FieldId) (s : State) : reload fi 0 s = s.setRaster (s.raster.reload fi 0) := by
  simp [reload]

/-- A reload at any other deviation puts the counters where a start of the field is expected, starts the line there, unless the counters
stay within their line, and then takes the switch point due there. -/
theorem reload_moves (fi : FieldId) (dev : Int) (s : State) (h : dev ≠ 0) :
    ∃ t, reload fi dev s = meetSwitchPoint t ∧
      t.raster = { s.raster.reload fi dev with startedLines := t.raster.startedLines } ∧
      (((s.raster.reload fi dev).line = s.raster.line ∧ (s.raster.reload fi dev).sample ≠ 0 ∧ t = s.setRaster (s.raster.reload fi dev)) ∨
        (¬ ((s.raster.reload fi dev).line = s.raster.line ∧ (s.raster.reload fi dev).sample ≠ 0) ∧
          t = beginLine (s.setRaster (s.raster.reload fi dev)))) := by
  by_cases hc : (s.raster.reload fi dev).line = s.raster.line ∧ (s.raster.reload fi dev).sample ≠ 0
  · exact ⟨s.setRaster (s.raster.reload fi dev), by simp [reload, h, hc], by simp, .inl ⟨hc.1, hc.2, rfl⟩⟩
  · refine ⟨beginLine (s.setRaster (s.raster.reload fi dev)), ?_, by rw [beginLine_raster]; simp, .inr ⟨hc, rfl⟩⟩
    simp only [reload, h, hc, if_false]

/-- Where no switch point is due none is taken. -/
theorem meetSwitchPoint_none (s : State) (h : s.switchPointDue = false) : meetSwitchPoint s = s := by simp [meetSwitchPoint, h]

/-- Where one is due it is taken. -/
theorem meetSwitchPoint_due (s : State) (h : s.switchPointDue = true) : meetSwitchPoint s = takeSwitchPoint s := by
  simp [meetSwitchPoint, h]

/-- With the reset input released and the flash not unreadable, an event that moves the counters has its effect. -/
theorem whenCounting_released (f : State → State) (s : State) (h : s.loader.inputAsserted = false) (hu : s.loader.unreadable = false) :
    whenCounting f s = .next (f s) := by
  simp [whenCounting, whenReleased, endUnreadable, h, hu]

/-- With the flash unreadable it finds LOADING ended with the default configuration. -/
theorem whenCounting_unreadable (f : State → State) (s : State) (h : s.loader.inputAsserted = false) (hu : s.loader.unreadable = true) :
    whenCounting f s = .next (f (applyDefaults s)) := by
  simp [whenCounting, whenReleased, endUnreadable, h, hu]

/-- Out of LOADING the flash is never unreadable. -/
theorem Loader.unreadable_of_state (l : Loader) (h : l.state ≠ .loading) : l.unreadable = false := by
  simp [Loader.unreadable, h]

/-! ## The delivery of an arrival (R140, R168) -/

/-- While the reset input is asserted there is none. -/
theorem deliver_asserted (sender : Station) (f : State → State) (s : State) (h : s.loader.inputAsserted = true) :
    deliver sender f s = s := by
  simp [deliver, h]

/-- While the port waits for IDLE there is none. -/
theorem deliver_waiting (sender : Station) (f : State → State) (s : State) (h : s.port.rx = .waitIdle) : deliver sender f s = s := by
  simp [deliver, h]

/-- A discard while the port waits for IDLE changes nothing. -/
theorem Port.discard_waiting (p : Port) (ending : AssemblyEnd) (h : p.rx = .waitIdle) : p.discard ending = p := by
  simp [Port.discard, h]

/-- Any other discard leaves the line and the receiver as its ending says (R128, R138). -/
theorem Port.discard_assembling (p : Port) (ending : AssemblyEnd) (h : p.rx ≠ .waitIdle) :
    p.discard ending = { p with lineState := lineAfterDiscard p.lineState ending, rx := rxAfterDiscard ending } := by
  simp [Port.discard, h]

/-- In LOADING the port takes the frame and delivers nothing. -/
theorem deliver_loading (sender : Station) (f : State → State) (s : State) (h : s.loader.inputAsserted = false)
    (hr : s.port.rx ≠ .waitIdle) (hl : s.loader.state = .loading) : deliver sender f s = s.setPort s.port.arrived := by
  simp [deliver, h, hr, hl]

/-- A frame with this station's own number is a duplicate arrival. -/
theorem deliver_own (f : State → State) (s : State) (h : s.loader.inputAsserted = false) (hr : s.port.rx ≠ .waitIdle)
    (hl : s.loader.state ≠ .loading) : deliver s.loader.station f s = hearDuplicate (s.setPort s.port.arrived) := by
  simp [deliver, h, hr, hl]

/-- Any other frame has its effect. -/
theorem deliver_other (sender : Station) (f : State → State) (s : State) (h : s.loader.inputAsserted = false) (hr : s.port.rx ≠ .waitIdle)
    (hl : s.loader.state ≠ .loading) (hs : sender ≠ s.loader.station) : deliver sender f s = f (s.setPort s.port.arrived) := by
  simp [deliver, h, hr, hl, hs]

end Sys2Proof.Machine
end

