-- ==== Sys2Proof/WellFormed.lean ====
section
/-! DEFINITION. Which operands an event can carry, whatever the state: the ranges and lengths the spec gives the operand itself. -/

namespace Sys2Proof

/-- A video line with the shape of one of the formats: a frame line number that some format has, the luma samples of its
active positions, and one Cb and one Cr sample to each pair (R65, R113). -/
def VideoLine.wellFormed (l : VideoLine) : Bool :=
  ((l.y.length == 1920 && decide (1 ≤ l.line ∧ l.line ≤ 1125)) ||
   (l.y.length == 1280 && decide (1 ≤ l.line ∧ l.line ≤ 750))) &&
  l.cb.length * 2 == l.y.length && l.cr.length * 2 == l.y.length

/-- A command whose operands an event of its kind can carry: a line with a format's shape, a reference field start of a field
that the reference's format has (R116), no more flash than the configuration block (R182), frames of the lengths R139 allows,
and an assembly no longer than the largest frame (R127). -/
def Instr.wellFormed : Instr → Bool
  | .endOfLoading block => decide (block.length ≤ 329)
  | .inputLineArrival _ l => l.wellFormed
  | .referenceFieldStart f .two => f == .A || f == .B
  | .frameDiscarded bytes _ => decide (bytes.length ≤ 45)
  | .transetArrival _ p => decide (2 ≤ p.length ∧ p.length ≤ 21)
  | .keysetArrival _ p => decide (3 ≤ p.length ∧ p.length ≤ 20)
  | .standingArrival _ p => p.length == 29
  | _ => true

end Sys2Proof
end

