-- ==== Sys2Proof/Tests/Slice0.lean ====
section
/-! SUPPORT. Tests of the model: each check of WellFormed, the worked figures of the spec, a small test per command, and a witness of the
hypotheses of each statement. -/

namespace Sys2Proof.Tests

open Sys2Proof Sys2Proof.Machine Sys2Proof.Safety

/-! ## States and frames for the tests -/

/-- The state of an outcome. -/
def after : Host.Outcome State Fault Refusal → State
  | .next s => s
  | .fault _ => State.reset
  | .refused _ => State.reset

/-- Station 5 in a station state, on the default map, with the reset input released and the port ready for a start bit. -/
def station (st : StationState) : State :=
  ((State.reset.setPort { Port.reset with rx := .ready }).setLoader { Loader.reset with inputAsserted := false, state := st, station := 5 }).setCrosspoint
    { Crosspoint.reset with programme := some 53, map := defaultMap }

/-- Station 5 in RUNNING, with panel 10 delegated to it and owning the lever, and the cue deadline not yet taken. -/
def onAir : State :=
  (((station .running).setPeers { PeerView.reset with entries := [{ station := 10, age := 3, kind := .panel (some 5) }] }).setIntake
    { Intake.reset with leverOwner := some 10 }).setRaster { Raster.reset with deadlineFlag := false }

/-- A header from a sender to a target. -/
def hdr (sender target : Station) : Header := { cls := 0, sender := sender, spare := 0, target := target }

/-- The header of panel 10's frames to station 5. -/
def h105 : Header := hdr 10 5

/-- The same state with other engine, keys, port, raster or intake parts. -/
def withEngine (f : Engine → Engine) (s : State) : State := s.setEngine (f s.engine)
def withKeys (f : KeyUnit → KeyUnit) (s : State) : State := s.setKeys (f s.keys)
def withPort (f : Port → Port) (s : State) : State := s.setPort (f s.port)
def withRaster (f : Raster → Raster) (s : State) : State := s.setRaster (f s.raster)
def withIntake (f : Intake → Intake) (s : State) : State := s.setIntake (f s.intake)
def withPeers (f : PeerView → PeerView) (s : State) : State := s.setPeers (f s.peers)

/-- An input record that is not as reset. -/
def withInput (i : InputNo) (f : InputRecord → InputRecord) (s : State) : State := s.setMonitor (s.monitor.modify i f)

/-- A line of format D: 1280 luma samples of one value. -/
def lineD (n : Nat) (v : Sample) : VideoLine :=
  { line := n, y := List.replicate 1280 v, cb := List.replicate 640 512#10, cr := List.replicate 640 512#10, check := 0 }

/-! ## WellFormed: an ill-formed term for each check -/

theorem test_wf_block_too_long : (Instr.endOfLoading (List.replicate 330 0)).wellFormed = false := by decide +kernel

theorem test_wf_line_number : (Instr.inputLineArrival 0 { lineD 751 0 with line := 751 }).wellFormed = false := by decide +kernel

theorem test_wf_line_luma : (Instr.inputLineArrival 0 { lineD 30 0 with y := [0] }).wellFormed = false := by decide

theorem test_wf_line_chroma : (Instr.inputLineArrival 0 { lineD 30 0 with cr := [0] }).wellFormed = false := by decide +kernel

theorem test_wf_field_two_progressive : (Instr.referenceFieldStart .C .two).wellFormed = false ∧
    (Instr.referenceFieldStart .D .two).wellFormed = false := by decide

theorem test_wf_assembly_too_long : (Instr.frameDiscarded (List.replicate 46 0) .checked).wellFormed = false := by decide

theorem test_wf_transet_lengths : (Instr.transetArrival h105 [0]).wellFormed = false ∧
    (Instr.transetArrival h105 (List.replicate 22 0)).wellFormed = false := by decide

theorem test_wf_keyset_lengths : (Instr.keysetArrival h105 [0, 0]).wellFormed = false ∧
    (Instr.keysetArrival h105 (List.replicate 21 0)).wellFormed = false := by decide

theorem test_wf_standing_length : (Instr.standingArrival h105 (List.replicate 28 0)).wellFormed = false := by decide

theorem test_no_word_spells_a_command : decodeTableWord 32 12345 = none := by decide

/-! ## The spec's worked figures -/

/-- R64's figures. -/
theorem test_mix_figures : mix 300 940 320 = 500 ∧ mix 64 940 512 = 502 ∧ mix 0 1023 1 = 1 := by decide

/-- The wipe of "one sample through every stage": a box with softness 32 and border width 8 at progress 256. -/
def boxWipe : TransSettings :=
  { TransSettings.reset with type := .wipe, pattern := .box, softness := 32, borderWidth := 8 }

/-- The coordinates, pattern value, edge and zone of that sample. -/
theorem test_worked_zone : frameRow .A 884 = 601 ∧ normU .A 1200 = 640 ∧ normV .A 601 = 569 ∧ patternValue boxWipe false 640 569 = 256 ∧
    wipeEdge 256 32 8 = 266 ∧ wipeZone 256 32 8 256 = .soft 320 := by decide

/-- The scene of that sample, layer 1 keyed from its fill. -/
def workedScene : Scene :=
  { background := .wipe (.flat { y := 300, cb := 600, cr := 450 }) (.flat { y := 700, cb := 420, cr := 520 }) boxWipe false 256,
    layers := [{ settings := { KeySettings.reset with clip := 300, gain := 24 }, level := 1024,
                 fill := .flat { y := 720, cb := 400, cr := 700 }, signal := .flat { y := 720, cb := 400, cr := 700 } }] }

/-- What leaves PGM there: Y 634, Cb 468, Cr 610. -/
theorem test_worked_sample : workedScene.y .A 601 1200 = 634 ∧ workedScene.cb .A 601 600 = 468 ∧ workedScene.cr .A 601 600 = 610 := by
  decide

/-- The preview of the same field: Y 712, Cb 408, Cr 630. -/
theorem test_worked_preview :
    let s := { workedScene with background := .single (.flat { y := 700, cb := 420, cr := 520 }) }
    s.y .A 601 1200 = 712 ∧ s.cb .A 601 600 = 408 ∧ s.cr .A 601 600 = 630 := by decide

/-- "Two keys, inverted and masked": alphas 509 (381 at level 768) and 940. -/
theorem test_worked_keys : shapedAlpha 0 16 false (keySignal 500) = 509 ∧ scaledAlpha 509 768 = 381 ∧
    shapedAlpha 100 32 true (keySignal 200) = 940 ∧ mix 400 800 381 = 549 ∧ mix 549 200 940 = 229 := by decide

/-- The window of an INSIDE mask cuts the alpha to 0 outside it (R78). -/
theorem test_mask_edges :
    let k := { KeySettings.reset with maskMode := .inside, left := 10, width := 2, top := 5, height := 1 }
    maskedAlpha k 9 5 940 = 0 ∧ maskedAlpha k 10 5 940 = 940 ∧ maskedAlpha k 11 5 940 = 940 ∧ maskedAlpha k 12 5 940 = 0 := by decide

/-- The run of R22's example and the conversion of "an AUTO run finishing a lever move". -/
theorem test_auto_progress : autoProgress 0 1 3 = 341 ∧ autoProgress 0 2 3 = 682 ∧ convertedRate 300 50 = 36 ∧
    autoProgress 300 1 36 = 320 ∧ autoProgress 300 18 36 = 662 ∧ autoProgress 300 35 36 = 1003 := by decide

/-- "Reading a TRANSET": length 7 with mask 131 gives WIPE, rate 40 and a border width clamped to 255; length 8 is BAD_VALUE. -/
theorem test_reading_a_transet :
    transetAction [0, 131, 1, 0, 40, 1, 44] =
      some (.transet { type := some .wipe, rate := some 40, pattern := none, mode := none, cx := none, cy := none, softness := none,
                       borderWidth := some 255, borderY := none, borderCb := none, borderCr := none }) ∧
    transetAction [0, 131, 1, 0, 40, 1, 44, 0] = none := by decide +kernel

/-- The map of "Validating a map" (station 3, programme 51), entries 2..7. -/
theorem test_validating_a_map :
    (validateMap 51 [⟨0, 40, true⟩, ⟨1, 2, true⟩, ⟨0, 1, true⟩, ⟨2, 4, true⟩, ⟨3, 51, true⟩, ⟨14, 0, false⟩]).drop 1 =
      [some { input := 1, backup := some 2, failover := true }, none, some { input := 2, backup := none, failover := true },
       some { input := 3, backup := none, failover := true }, none] := by decide

/-- "An input drifting through the window", A = 2: the fourth arrival overruns line 102, which output line 102 then does not find. -/
theorem test_window_overrun :
    let b := [101, 102].map fun n => lineD n 0
    let b := (bufferRead 101 b).2
    let b := bufferAppend 2 (bufferAppend 2 b (lineD 103 0)) (lineD 104 0)
    b.map (·.line) = [103, 104] ∧ (bufferRead 102 b).1 = none ∧ ((bufferRead 103 b).2.map (·.line)) = [104] := by
  decide

/-- "Counting to failover and back", T = 4: S_5 of the eligible input and of the one that is not. -/
theorem test_count_to_failover :
    let r := { InputRecord.reset with count := 3, health := .suspect, substitutionSeen := true }
    ((r.leak.judge 4 true).health, (r.leak.judge 4 false).health, (r.leak.judge 4 true).count) = (.failed, .faulty, 4) := by decide

/-- "A displaced reference start": 30 lines early at line 1096, sample 0; deadline line 1112 is passed over. -/
theorem test_displaced_start :
    let r := { Raster.reset with line := 1096, refState := .locked, deadlineFlag := false }
    r.deviation .one = -(30 * 2640) ∧ isMatching .A (r.deviation .one) = false ∧ 1112 ∈ r.deadlineLines ∧
    (r.reload .one (r.deviation .one)).deadlineFlag = true ∧ (r.reload .one (r.deviation .one)).line = 1 := by decide

/-- The same start from the deadline line itself: the line stood on is passed over (R124). -/
theorem test_displaced_start_on_deadline_line :
    let r := { Raster.reset with line := 1112, refState := .locked, deadlineFlag := false }
    (r.reload .one (r.deviation .one)).deadlineFlag = true := by decide

/-! ## The commands: start-up -/

theorem test_resetAsserted : (after (exec .resetAsserted onAir)).peers.entries = [] ∧
    (after (exec .resetAsserted onAir)).loader.station = 5 := by decide

theorem test_resetReleased_flash : (after (exec (.resetReleased 7 true .flash) State.reset)).loader =
    { Loader.reset with inputAsserted := false, station := 7, final := true } := by decide

/-- Under DEFAULTS the programme source number is 48 plus the station number (R184). -/
theorem test_resetReleased_defaults :
    let t := after (exec (.resetReleased 7 true .defaults) State.reset)
    t.loader.state = .listening ∧ t.crosspoint.programme = some 55 ∧ t.loader.configDefault = true := by decide

theorem test_endOfLoading_rejected :
    let t := after (exec (.endOfLoading [87, 87, 1, 67, 0, 0]) (station .loading))
    t.loader.state = .listening ∧ t.loader.configDefault = true := by decide

theorem test_flashUnreadable :
    let s := station .loading
    let t := after (exec .flashUnreadable (s.setLoader { s.loader with loadingSwitchPoints := 16 }))
    t.loader.state = .listening := by decide

theorem test_enterRunning :
    let s := station .listening
    let t := after (exec .enterRunning (s.setLoader { s.loader with listeningCount := 8 }))
    t.loader.state = .running ∧ t.port.standingPending = true := by decide

/-! ## The commands: raster, reference and inputs -/

theorem test_lineStart_wraps : (after (exec .lineStart (withRaster (fun r => { r with line := 1125, sample := 9 }) onAir))).raster.line = 1 := by
  decide

/-- A line of format A has 2640 counts, the last 1920 of them active (R113): count 720 carries active position 0. -/
theorem test_lineStart_horizontal_blanking :
    activePosition .A 719 = none ∧ activePosition .A 720 = some 0 ∧ activePosition .A 2639 = some 1919 ∧
    (after (exec .lineStart onAir)).programmeNow = { y := 64, cb := 512, cr := 512 } := by decide +kernel

theorem test_inputLineArrival_other_format :
    ((after (exec (.inputLineArrival 3 { lineD 30 0 with y := [], cb := [], cr := [] }) onAir)).monitor.get 3).absenceSeen = true := by
  decide

theorem test_inputLineArrival_joins :
    ((after (exec (.inputLineArrival 3 (lineD 30 0)) (withRaster (fun r => { r with format := .D }) onAir))).monitor.get 3).buffer.map
      (·.line) = [30] := by decide +kernel

theorem test_absence : ((after (exec (.absence 3) onAir)).monitor.get 3).absenceSeen = true ∧
    ((after (exec (.absence 3) onAir)).monitor.get 4).absenceSeen = false := by decide

/-- From line 560 the next switch line of format A with switch line 7 is 570, in field 2. -/
theorem test_switchPoint_loading :
    let t := after (exec .switchPoint (withRaster (fun r => { r with line := 560 }) (station .loading)))
    t.raster.line = 570 ∧ t.raster.fieldId = .two ∧ t.raster.deadlineFlag = false ∧ t.loader.loadingSwitchPoints = 1 := by decide

theorem test_cueDeadline :
    (after (exec .cueDeadline (withRaster (fun r => { r with line := 570 }) onAir))).raster.line = 1112 ∧
    (after (exec .cueDeadline onAir)).raster.line = 550 := by decide

theorem test_referenceFieldStart : (after (exec (.referenceFieldStart .A .two) onAir)).raster.refState = .realign ∧
    (after (exec (.referenceFieldStart .B .one) onAir)).raster.refState = .free := by decide

theorem test_missCheck :
    (after (exec .missCheck (withRaster (fun r => { r with refState := .locked, missCount := 2 }) onAir))).raster.refState = .free := by
  decide

theorem test_leaveLock :
    (after (exec .leaveLock (withRaster (fun r => { r with refState := .locked, missCount := 3 }) onAir))).raster.refState = .free := by
  decide

/-! ## The commands: steps inside a switch point -/

/-- An AUTO run at its remaining rate. -/
def ended : State := withEngine (fun e => { e with state := .auto, elapsed := 30, remaining := 30, progress := 989 })
  (onAir.setCrosspoint { onAir.crosspoint with
    buses := { Buses.reset with pgm := { BusRecord.reset with selected := 7 }, pst := { BusRecord.reset with selected := 9 } } })

theorem test_completion :
    let t := after (exec .completion ended)
    t.crosspoint.buses.pgm.selected = 9 ∧ t.crosspoint.buses.pst.selected = 7 ∧ t.crosspoint.buses.pgm.previous = 7 ∧
    t.engine.state = .idle := by decide

/-- Layer 2 in its own key mix at its key rate. -/
def mixing : State := withKeys (fun k => { k with layer2 := { k.layer2 with state := .rising, level := 955, elapsed := 15 } }) onAir

/-- The same station at its switch line with the cue deadline taken. -/
def mixingAtSwitch : State := withRaster (fun r => { r with line := 7, deadlineFlag := true }) mixing

/-- The mix ends at the switch point, and nowhere else. -/
theorem test_keyMixEnds : ((after (exec (.keyMixEnds .l2) mixingAtSwitch)).keys.get .l2).state = .on ∧
    ((after (exec (.keyMixEnds .l2) mixing)).keys.get .l2).state = .rising := by decide +kernel

theorem test_primaryTick :
    let s := onAir.setMonitor { onAir.monitor with primary := 50 }
    let t := after (exec .primaryTick s)
    t.monitor.primary = 0 ∧ (t.monitor.get 11).divider = 1 := by decide

theorem test_leakDue :
    ((after (exec (.leakDue 2) (withInput 2 (fun r => { r with count := 4, divider := 1 }) onAir))).monitor.get 2).count = 3 := by decide

/-- Panel 10's entry at the age of expiry. -/
def aged : State := withPeers (fun v => { v with entries := [{ station := 10, age := 24, kind := .panel (some 5) }] }) onAir

theorem test_peerExpiry : (after (exec (.peerExpiry 10) aged)).peers.entries = [] ∧
    (after (exec (.peerExpiry 10) aged)).intake.leverOwner = none := by decide

theorem test_duplicateFlagClear :
    (after (exec .duplicateFlagClear (withPeers (fun v => { v with duplicate := true, quiet := 24 }) onAir))).peers.duplicate = false := by
  decide

theorem test_standingRepeat :
    (after (exec .standingRepeat (withPeers (fun v => { v with repeatCount := 8 }) onAir))).port.standingPending = true := by decide

/-! ## The commands: the Cue Line -/

theorem test_lineIdle : (after (exec .lineIdle onAir)).port.lineState = .idle := by decide

theorem test_lineBusy : (after (exec .lineBusy (after (exec .lineIdle onAir)))).port.rx = .assembling := by decide

/-- A refusal of a TAKE with TRANSITION_RUNNING waiting for panel 10. -/
def refusing : State := withPort (fun p => { p with lineState := .idle, rx := .ready, refusals := [⟨10, .take, .transitionRunning, 0, 0⟩] })
  onAir

/-- Byte 0 is class 3 and station 5, 212; byte 1 kind 13 and target 10, 218; then the length 3 and the payload 4, 8, 0 (R142, R144). -/
theorem test_attemptBegins_refusal :
    (after (exec .attemptBegins refusing)).port.attempt.map (fun a => a.frame.take 6) = some [212, 218, 3, 4, 8, 0] := by decide

/-- An attempt of that refusal. -/
def sending (passed : Bool) : State :=
  withPort (fun p => { p with lineState := .busy, attempt := some ⟨.refusal, 0, passed, []⟩, budgetField := 0 }) refusing

theorem test_arbitrationLoss : (after (exec .arbitrationLoss (sending false))).port.attempt = none ∧
    (after (exec .arbitrationLoss (sending false))).port.budgetCount = 0 := by decide

theorem test_attemptPassesByte0 : (after (exec .attemptPassesByte0 (sending false))).port.budgetCount = 1 := by decide

theorem test_transmitError : (after (exec .transmitError (sending true))).port.refusals.map (·.errors) = [1] := by decide

theorem test_frameDropped :
    (after (exec .frameDropped (withPort (fun p => { p with refusals := [⟨10, .take, .loop, 0, 3⟩] }) onAir))).port.refusals = [] := by
  decide

theorem test_attemptCompletes : (after (exec .attemptCompletes (sending true))).port.refusals = [] ∧
    (after (exec .attemptCompletes (sending true))).port.attempt = none := by decide

theorem test_frameDiscarded : (after (exec (.frameDiscarded [0, 16, 41] .overlong) onAir)).port.rx = .waitIdle := by decide

/-! ## The commands: arrivals -/

theorem test_delegateArrival : (after (exec (.delegateArrival (hdr 3 5) 0x85) onAir)).intake.leverOwner = some 3 := by decide

theorem test_pickArrival :
    (after (exec (.pickArrival h105 1 9) onAir)).intake.queue = [{ action := .select .pst 9, sender := 10, due := 1 }] := by decide

theorem test_leverArrival_clamped :
    (after (exec (.leverArrival h105 8 0) onAir)).intake.queue = [{ action := .lever 1024, sender := 10, due := 1 }] := by decide +kernel

theorem test_takeArrival_badValue :
    (after (exec (.takeArrival h105 2) onAir)).port.refusals = [⟨10, .take, .badValue, 0, 0⟩] := by decide

/-- A port that waits for IDLE delivers nothing (R138, R141). -/
theorem test_takeArrival_waiting :
    let s := withPort (fun p => { p with rx := .waitIdle }) onAir
    exec (.takeArrival h105 0) s = .next s := rfl

theorem test_keytakeArrival :
    (after (exec (.keytakeArrival h105 4 1) onAir)).intake.queue.map (·.action) = [.keytake .l4 .mix] := by decide

theorem test_nextselArrival :
    (after (exec (.nextselArrival h105 0x12) onAir)).intake.queue.map (·.action) = [.nextsel ⟨true, false, true, false, false⟩] := by decide

theorem test_transetArrival : (after (exec (.transetArrival h105 [0, 2, 3, 232]) onAir)).intake.queue.length = 1 := by decide

theorem test_keysetArrival_badLayer :
    (after (exec (.keysetArrival h105 [5, 0, 0]) onAir)).port.refusals = [⟨10, .keyset, .badValue, 0, 0⟩] := by decide

theorem test_restoreArrival_notDelegated :
    (after (exec (.restoreArrival (hdr 11 5) 3) onAir)).port.refusals = [⟨11, .restore, .notDelegated, 3, 0⟩] := by decide

/-- A frame read on an IDLE line makes the line BUSY (R128). -/
theorem test_restoreArrival_line :
    (after (exec (.restoreArrival h105 3) (withPort (fun p => { p with lineState := .idle }) onAir))).port.lineState = .busy := by decide

/-- The payload of a STANDING: programme 40, link group 2 and FINAL, contribution {2}, next-contribution {3}. -/
def standing40 : List Byte := [40, 160, 0, 0, 0, 0, 2, 3, 0, 0, 0, 0, 0, 0, 0, 0, 0, 4, 0, 0, 0, 0, 0, 0, 0, 8, 0, 0, 0]

theorem test_standingArrival :
    (after (exec (.standingArrival (hdr 2 2) standing40) onAir)).peers.find 2 =
      some { station := 2, age := 0, kind := .mix { programme := 40, linkGroup := 2, final := true, contribution := 4#64, next := 8#64 } } := by
  decide

theorem test_refusalArrival : ((after (exec (.refusalArrival h105 0 0 0) onAir)).peers.find 10).map (·.age) = some 0 := by decide

/-! ## Witnesses: states and operands that meet the hypotheses of each statement, clause by clause at the edges of its ranges -/

/-- Station 5 in RUNNING with nothing else changed. -/
def calm : State := station .running

theorem witness_StepTakesFrontCommand : (onAir.setPending [.lineIdle, .lineBusy]).pending = .lineIdle :: [.lineBusy] := rfl

theorem witness_IdleStepCountsOneSample : onAir.pending = [] ∧ Released onAir ∧ onAir.loader.unreadable = false ∧
    onAir.raster.sample + 1 < lineSamples onAir.raster.format ∧ onAir.raster.line ∉ onAir.raster.deadlineLines ∧
    onAir.raster.line ∉ onAir.raster.switchLines ∧ onAir.raster.line ∉ onAir.raster.missCheckLines ∧ onAir.mayBegin = false := by
  unfold Released; decide

theorem witness_ReleaseReadsStrapsAndMayEndLoading : State.reset.loader.inputAsserted = true ∧ Released onAir := ⟨rfl, rfl⟩

theorem witness_RejectedOrUnreadableFlashGivesDefaults :
    let s := station .loading
    let count := fun n => s.setLoader { s.loader with loadingSwitchPoints := n }
    (Released s ∧ s.loader.state = .loading ∧ s.loader.boot = .flash) ∧ (86#8).toNat ≠ 87 ∧
    ((List.replicate 323 (0#8)).length = 323 ∧
      (87 + 86 + 1 + 67 + ((List.replicate 323 (0#8)).map fun b => b.toNat).sum) % 65536 ≠ (0#8).toNat * 256 + (240#8).toNat) ∧
    (Released (count 16) ∧ (count 16).loader.state = .loading ∧ 16 ≤ (count 16).loader.loadingSwitchPoints) ∧
    (Released (count 15) ∧ (count 15).loader.state = .loading ∧ (count 15).loader.loadingSwitchPoints < 16) := by
  unfold Released; decide +kernel

theorem witness_AcceptedBlockIsInForce :
    let s := station .loading
    (Released s ∧ s.loader.state = .loading ∧ s.loader.boot = .flash ∧ s.monitor.inputs.length = 12) ∧
    ∀ k ∈ [0#8, 1#8, 2#8, 3#8, 4#8], (k :: List.replicate 322 (0#8)).length = 323 ∧
      (87 + 86 + 1 + 67 + ((k :: List.replicate 322 (0#8)).map fun b => b.toNat).sum) % 65536 =
        (0#8).toNat * 256 + (241#8 + k).toNat := by
  unfold Released; decide +kernel

theorem witness_MapValidationSettlesEntries :
    let raw : List RawMapEntry := [⟨0, 3, true⟩, ⟨11, 0, false⟩, ⟨12, 0, false⟩, ⟨0, 1, true⟩]
    let m := validateMap 53 raw
    raw.length ≤ 62 ∧ m[0]? = some (some { input := 0, backup := some 3, failover := true }) ∧
    m[1]? = some (some { input := 11, backup := some 0, failover := false }) ∧ m[2]? = some none ∧ m[3]? = some none := by decide

theorem witness_ListeningEndsAtTheEighthSwitchPoint :
    let s := station .listening
    let count := fun n => s.setLoader { s.loader with listeningCount := n }
    ∀ n ∈ [6, 7, 8], Released (count n) ∧ (count n).loader.state = .listening ∧ (count n).raster.deadlineFlag = true ∧
      (count n).loader.listeningCount = n := by
  unfold Released; decide

/-- Station 5 before output line 21, with lines 20, 21 and 22 in the buffer of input 3 and none in that of input 4. -/
def feeding : State :=
  withRaster (fun r => { r with line := 20 }) (withInput 3 (fun r => { r with buffer := [lineD 20 0, lineD 21 0, lineD 22 0] }) onAir)

theorem witness_LineStartMovesCountersAndReadsBuffers :
    (Counting feeding ∧ feeding.monitor.inputs.length = 12) ∧ isActiveLine .A 21 = true ∧
    ((feeding.monitor.get 3).buffer = [lineD 20 0] ++ lineD 21 0 :: [lineD 22 0] ∧ (lineD 21 0).line = 21 ∧
      ∀ o ∈ [lineD 20 0], o.line ≠ 21) ∧
    (∀ l ∈ (feeding.monitor.get 4).buffer, l.line ≠ 21) ∧
    (Counting (withRaster (fun r => { r with line := 1125 }) onAir) ∧ isActiveLine .A 1 = false) ∧
    (Counting (station .listening) ∧ (station .listening).loader.state ≠ .running) := by
  refine ⟨⟨⟨rfl, rfl⟩, by decide⟩, by decide, ⟨rfl, rfl, ?_⟩, ?_, ⟨⟨rfl, rfl⟩, by decide⟩, ⟨⟨rfl, rfl⟩, by decide⟩⟩
  · intro o h
    simp only [List.mem_singleton] at h
    subst h
    decide
  · intro l h
    cases h

theorem witness_OutputsStayWithinLimits : Counting onAir ∧ onAir.picture.limits.yLo ≤ onAir.picture.limits.yHi ∧
    onAir.picture.limits.yHi ≤ 1019 ∧ onAir.picture.limits.cLo ≤ onAir.picture.limits.cHi ∧ onAir.picture.limits.cHi ≤ 1019 := by
  unfold Counting Released; decide

/-- The line both outputs carry at reset is BLACK throughout. -/
theorem reset_line_black (f : Format) (n : Nat) : OutputLine.reset.sampleAt f n = { y := 64#10, cb := 512#10, cr := 512#10 } := by
  have h (k i : Nat) (v : Sample) : (List.replicate k v).getD i v = v := by
    rw [List.getD_eq_getElem?_getD, List.getElem?_replicate]; split <;> rfl
  unfold OutputLine.sampleAt
  cases activePosition f n with
  | none => simp only [OutputLine.reset, Colour.mk.injEq]; exact ⟨h .., h .., h ..⟩
  | some x => simp only [OutputLine.reset, Colour.mk.injEq]; exact ⟨h .., h .., h ..⟩

theorem witness_OutputsStayWithinLimits_kept : PictureSound calm ∧ ∃ t, step calm = .next t := by
  refine ⟨⟨by decide, by decide, ?_⟩, _, rfl⟩
  intro o ho n _
  have : o = OutputLine.reset := by
    rcases List.mem_cons.1 ho with h | h
    · exact h
    · exact List.mem_singleton.1 h
  rw [this, reset_line_black]; decide

/-- Station 5 before output line 21 with sources 5 (held) and 6 (not held) on PGM, or 5 on PGM and PST in a MIX. -/
def showing (pgm : Source) (st : EngineState) : State :=
  withEngine (fun e => { e with state := st, progress := 300 })
    (feeding.setCrosspoint { feeding.crosspoint with
      buses := { Buses.reset with pgm := { BusRecord.reset with effective := pgm }, pst := { BusRecord.reset with effective := 5 } } })

theorem witness_ProgrammeShowsItsSources :
    (Running (showing 5 .idle) ∧ (showing 5 .idle).monitor.inputs.length = 12 ∧ isActiveLine .A 21 = true ∧
      (showing 5 .idle).raster.line + 1 = 21) ∧
    (∀ l, ((showing 5 .idle).keys.get l).level = 0) ∧
    (∃ e older newer, (showing 5 .idle).crosspoint.entry 5 = some e ∧
      ((showing 5 .idle).monitor.get e.input).buffer = older ++ lineD 21 0 :: newer ∧ (lineD 21 0).line = 21 ∧ ∀ o ∈ older, o.line ≠ 21) ∧
    ((showing 6 .idle).crosspoint.entry 6 = some { input := 4, backup := none, failover := false } ∧
      ((showing 6 .idle).monitor.get 4).buffer = []) ∧
    (showing 0 .idle).crosspoint.buses.pgm.effective = 0 ∧ (showing 1 .idle).crosspoint.buses.pgm.effective = 1 ∧
    ((showing 5 .auto).engine.state ≠ .idle ∧ (showing 5 .auto).engine.selection.background = true ∧
      (showing 5 .auto).engine.settings.type = .mix ∧ (showing 5 .auto).crosspoint.buses.pst.effective = 5) := by
  refine ⟨⟨⟨rfl, rfl⟩, by decide, by decide, by decide⟩, ?_, ⟨{ input := 3, backup := none, failover := false }, [lineD 20 0], [lineD 22 0],
    by decide, rfl, rfl, ?_⟩, ⟨by decide, rfl⟩, rfl, rfl, ⟨by decide, rfl, rfl, rfl⟩⟩
  · intro l; cases l <;> rfl
  · intro o h
    simp only [List.mem_singleton] at h
    subst h
    decide

/-- In IDLE and in a WIPE, with layer 1 LUMA, layer 2 LINEAR and ON, and layer 3 in the key mask; an even position and its pair. -/
theorem witness_LinesAreRenderedFromTheirScenes :
    let s := withKeys (fun k => { k with layer2 := { k.layer2 with state := .on, settings := { k.layer2.settings with type := .linear } } })
      (withEngine (fun e => { e with settings := { e.settings with type := .wipe } }) (showing 5 .auto))
    let idle := withEngine (fun e => { e with selection := { e.selection with mask3 := true } }) (showing 5 .idle)
    (Running s ∧ isActiveLine .A 21 = true ∧ s.raster.line + 1 = 21 ∧ s.engine.state ≠ .idle ∧ s.engine.selection.background = true ∧
      s.engine.settings.type = .wipe) ∧
    (s.keys.stack[0]? = some .l1 ∧ s.keys.stack[1]? = some .l2 ∧ (s.keys.get .l2).settings.type = .linear ∧
      (s.keys.get .l2).state = .on ∧ (s.keys.get .l1).settings.type = .luma ∧ (s.keys.get .l1).state = .off) ∧
    (withEngine (fun e => { e with settings := { e.settings with type := .mix } }) s).engine.settings.type = .mix ∧
    (idle.engine.state = .idle ∧ idle.engine.selection.mask .l3 = true) ∧ 1200 = 2 * 600 := by
  unfold Running Released; decide

theorem witness_SwitchPointOpensTheNextField :
    let at7 := withRaster (fun r => { r with line := 7, sample := 2639 }) calm
    (Counting calm ∧ CountersSound calm ∧ calm.raster.deadlineFlag = true ∧ calm.raster.line ∉ calm.raster.switchLines) ∧
    (Counting at7 ∧ CountersSound at7 ∧ at7.raster.deadlineFlag = true ∧ at7.raster.line ∈ at7.raster.switchLines) ∧
    (Counting onAir ∧ CountersSound onAir ∧ onAir.raster.deadlineFlag = false) ∧
    (Counting (station .loading) ∧ CountersSound (station .loading) ∧ (station .loading).loader.state = .loading ∧
      (station .loading).raster.deadlineFlag = true) := by
  unfold Counting Released CountersSound; decide

theorem witness_CueDeadlineSetsTheFlag :
    let at550 := withRaster (fun r => { r with line := 550, sample := 1 }) onAir
    (Counting onAir ∧ CountersSound onAir ∧ onAir.raster.deadlineFlag = false ∧ onAir.raster.line ∉ onAir.raster.deadlineLines) ∧
    (Counting at550 ∧ CountersSound at550 ∧ at550.raster.deadlineFlag = false ∧ at550.raster.line ∈ at550.raster.deadlineLines) ∧
    (Counting calm ∧ CountersSound calm ∧ calm.raster.deadlineFlag = true) := by
  unfold Counting Released CountersSound; decide

/-- Station 5 in a reference state, its counters `n` sample periods past the expected start of field 1. -/
def locked (st : RefState) (n : Nat) : State :=
  withRaster (fun r => { r with refState := st, line := 1 + n / 2640, sample := n % 2640 }) onAir

theorem witness_ReferenceStartsRealignAndLock :
    (Counting onAir ∧ onAir.raster.format = .A ∧ FieldId.two ∈ fieldsOf .A ∧ onAir.raster.refState = .free ∧ Format.B ≠ .A) ∧
    (Counting (locked .realign 0) ∧ CountersSound (locked .realign 0) ∧ (locked .realign 0).raster.refState = .realign ∧
      (locked .realign 0).raster.deviation .one = 0) ∧
    ((locked .locked 5281).raster.refState = .locked ∧ 2 * lineSamples .A < ((locked .locked 5281).raster.deviation .one).natAbs) ∧
    ((locked .locked 5280).raster.refState = .locked ∧ ((locked .locked 5280).raster.deviation .one).natAbs ≤ 2 * lineSamples .A) := by
  unfold Counting Released CountersSound; decide

/-- A start 30 lines early, over the deadline line 1112 with the flag clear. -/
theorem witness_ReferenceStartsRealignAndLock_forward :
    let early := withRaster (fun r => { r with refState := .locked, line := 1096 }) onAir
    Counting early ∧ CountersSound early ∧ 2 * lineSamples .A < (early.raster.deviation .one).natAbs ∧
      early.raster.deviation .one < 0 ∧ early.raster.deadlineFlag = false ∧ 1112 ∈ early.raster.deadlineLines ∧
      0 < linesAhead .A 1096 1112 ∧ linesAhead .A 1096 1112 ≤ linesAhead .A 1096 1 := by
  unfold Counting Released CountersSound; decide

/-- The same from the start of the deadline line itself, which stays clear of the flag until the clock or a CUE_DEADLINE takes it. -/
theorem witness_ReferenceStartsRealignAndLock_stood :
    let early := withRaster (fun r => { r with refState := .locked, line := 1112 }) onAir
    Counting early ∧ CountersSound early ∧ 2 * lineSamples .A < (early.raster.deviation .one).natAbs ∧
      early.raster.deviation .one < 0 ∧ early.raster.deadlineFlag = false ∧ 1112 ∈ early.raster.deadlineLines ∧
      linesAhead .A 1112 1112 ≤ linesAhead .A 1112 1 := by
  unfold Counting Released CountersSound; decide

/-- A start that moves the counters back onto the switch line, with the deadline flag set and clear. -/
def backOnto (flag : Bool) : State :=
  withRaster (fun r => { r with refState := .locked, line := 20, offsetLines := 6, deadlineFlag := flag }) onAir

theorem witness_ReferenceStartsRealignAndLock_onto : ∀ flag ∈ [true, false],
    Counting (backOnto flag) ∧ CountersSound (backOnto flag) ∧ (backOnto flag).raster.deadlineFlag = flag ∧
      2 * lineSamples .A < ((backOnto flag).raster.deviation .one).natAbs ∧ 0 < (backOnto flag).raster.deviation .one ∧
      wrapLine .A (firstLine .one + 6) ∈ (backOnto flag).raster.switchLines ∧
      wrapLine .A (firstLine .one + 6) ∉ (backOnto flag).raster.deadlineLines := by
  unfold Counting Released CountersSound; decide

theorem witness_MissesLeaveLockAtThree :
    let s := fun st seen n => withRaster (fun r => { r with refState := st, startSeen := seen, missCount := n }) onAir
    (∀ seen ∈ [true, false], ∀ n ∈ [0, 1, 2], Counting (s .locked seen n) ∧ CountersSound (s .locked seen n) ∧
      (s .locked seen n).raster.refState ≠ .free ∧ (s .locked seen n).raster.startSeen = seen ∧
      (s .locked seen n).raster.missCount = n) ∧
    (Counting (s .free false 0) ∧ CountersSound (s .free false 0) ∧ (s .free false 0).raster.refState = .free) ∧
    (Released (s .locked false 3) ∧ 3 ≤ (s .locked false 3).raster.missCount) ∧
    (Released (s .locked false 2) ∧ (s .locked false 2).raster.missCount < 3) := by
  unfold Counting Released CountersSound; decide

/-- On the line of a miss check, and off it. -/
theorem witness_MissesLeaveLockAtThree_there :
    let s := withRaster (fun r => { r with refState := .locked, startSeen := true, missCount := 0 }) onAir
    let at4 := withRaster (fun r => { r with line := 4 }) s
    (Counting at4 ∧ CountersSound at4 ∧ at4.raster.line ∈ at4.raster.missCheckLines) ∧
    (Counting s ∧ s.raster.line ∉ s.raster.missCheckLines) := by
  unfold Counting Released CountersSound; decide

/-- Station 5 in format D with `n` lines waiting from input 3 and output line 40 started. -/
def waiting (n : Nat) : State :=
  withRaster (fun r => { r with format := .D, line := 40, startedLines := [40] })
    (withInput 3 (fun r => { r with buffer := List.replicate n (lineD 41 0) }) onAir)

theorem witness_InputEventsAreRecorded :
    (∀ n ∈ [0, 1, 2], Released (waiting n) ∧ (waiting n).monitor.inputs.length = 12 ∧
      ((waiting n).monitor.get 3).buffer.length = n ∧ (waiting n).monitor.window = 2) ∧
    (ofFormat .D (lineD 42 0) = true ∧ isActiveLine .D 42 = true ∧ (waiting 0).raster.hasStarted 42 = false) ∧
    (ofFormat .D (lineD 40 0) = true ∧ (waiting 0).raster.hasStarted 40 = true) ∧
    (ofFormat .D (lineD 25 0) = true ∧ isActiveLine .D 25 = false) := by
  unfold Released; decide +kernel

/-- A lever transition at progress 900, engaged, its position `p`, layer 1 rising and layer 2 falling with it. -/
def levering (p : Nat) : State :=
  withKeys (fun k => { k with layer1 := { k.layer1 with state := .rising, level := 900, moving := true },
                              layer2 := { k.layer2 with state := .falling, level := 124, moving := true } })
    (withEngine (fun e => { e with state := .lever, progress := 900, engaged := true, latest := some p }) onAir)

theorem witness_CompletionSwapsAndRests :
    (Released ended ∧ ended.engine.state = .auto ∧ ended.engine.remaining ≤ ended.engine.elapsed ∧
      ended.engine.selection.background = true ∧ (ended.keys.get .l1).moving = false) ∧
    (Released (levering 1008) ∧ (levering 1008).engine.state = .lever ∧ (levering 1008).engine.engaged = true ∧
      (levering 1008).engine.latest = some 1008 ∧ 1008 ≤ derivedProgress (levering 1008).engine.sense 1008) ∧
    (((levering 1008).keys.get .l1).moving = true ∧ ((levering 1008).keys.get .l1).state = .rising) ∧
    (((levering 1008).keys.get .l2).moving = true ∧ ((levering 1008).keys.get .l2).state = .falling) := by
  unfold Released; decide

theorem witness_DirectionBitTogglesAtAlternateWipes :
    let s := fun t m => withEngine (fun e => { e with settings := { e.settings with type := t, mode := m } }) onAir
    ((s .wipe .alternate).engine.settings.type = .wipe ∧ (s .wipe .alternate).engine.settings.mode = .alternate) ∧
    ((s .mix .alternate).engine.settings.type = .mix) ∧ ((s .wipe .normal).engine.settings.mode = .normal) ∧
    ((s .wipe .reverse).engine.settings.mode = .reverse) ∧
    (∀ f, offerTranset f onAir = .applied (onAir.setEngine (onAir.engine.withTranset f))) ∧
    ({ TransSettings.reset with mode := .alternate }).mode = .alternate := by
  refine ⟨⟨rfl, rfl⟩, rfl, rfl, rfl, fun _ => rfl, rfl⟩

/-- The advance at the counts n = rate - 1 and n = rate, rising and falling. -/
theorem witness_KeyMixEndsAtRest_advance :
    ∀ st ∈ [LayerState.rising, .falling], ∀ n ∈ [13, 14],
      let r := { LayerRecord.reset with state := st, level := 900, elapsed := n }
      r.moving = false ∧ r.state = st ∧ r.settings.rate = 15 ∧ r.elapsed = n := by decide

/-- At the switch point with the last count, rising and falling; off it, and with a count to spare. -/
theorem witness_KeyMixEndsAtRest :
    let at7 := fun st n => withRaster (fun r => { r with line := 7, deadlineFlag := true })
      (withKeys (fun k => { k with layer3 := { k.layer3 with state := st, level := 69, elapsed := n } }) onAir)
    (∀ st ∈ [LayerState.rising, .falling], ∀ n ∈ [13, 14], Released (at7 st n) ∧ (at7 st n).loader.state ≠ .loading ∧
      (at7 st n).raster.deadlineFlag = true ∧ (at7 st n).raster.line ∈ (at7 st n).raster.switchLines ∧
      ((at7 st n).keys.get .l3).moving = false ∧ ((at7 st n).keys.get .l3).state = st ∧
      ((at7 st n).keys.get .l3).settings.rate = 15 ∧ ((at7 st n).keys.get .l3).elapsed = n ∧
      (at7 st n).engine.selection.mask .l3 = false ∧ (at7 st n).intake.queue = []) ∧
    (Released mixing ∧ mixing.raster.line ∉ mixing.raster.switchLines) := by
  unfold Released; decide

theorem witness_TicksAdvanceDividersAndLeaks :
    let s := fun period primary => onAir.setMonitor { onAir.monitor with period := period, primary := primary }
    let d := withInput 2 (fun r => { r with leakDivider := 1, divider := 2 }) onAir
    (Released (s 50 50) ∧ 1 ≤ (s 50 50).monitor.period ∧ (s 50 50).monitor.period ≤ (s 50 50).monitor.primary) ∧
    (Released (s 50 49) ∧ (s 50 49).monitor.primary < (s 50 49).monitor.period) ∧ (s 0 0).monitor.period = 0 ∧
    (Released d ∧ d.monitor.inputs.length = 12 ∧ (d.monitor.get 2).leakDivider + 1 ≤ (d.monitor.get 2).divider) := by
  unfold Released; decide

/-- The counts 0, 1, T - 1, T and 255 are each reached by a record with its count there and a GOOD field, or one below and a BAD one. -/
theorem witness_VerdictMovesCountAndHealth :
    ∀ c ∈ [0, 1, 7, 8, 255], ∀ bad ∈ [true, false],
      let r := { InputRecord.reset with count := c, substitutionSeen := bad, health := .suspect }
      r.count ≤ 255 ∧ r.health ≠ .failed ∧ (r.leak.judge 8 true).count = if bad then min 255 (c + 1) else c := by decide

/-- The second half at a tick with the leak due, at a tick without it, without a tick and with P = 0. -/
theorem witness_VerdictMovesCountAndHealth_switch :
    let s := fun d => withInput 2 (fun r => { r with leakDivider := 1, divider := d }) calm
    let m := fun period primary d => (s d).setMonitor { (s d).monitor with period := period, primary := primary, gathering := true }
    ∀ d ∈ [0, 1], ∀ c ∈ [(0, 0), (50, 48), (50, 49)], Released (m c.1 c.2 d) ∧ CountersSound (m c.1 c.2 d) ∧ (m c.1 c.2 d).loader.state ≠ .loading ∧
      (m c.1 c.2 d).raster.deadlineFlag = true ∧ (m c.1 c.2 d).monitor.gathering = true ∧ (m c.1 c.2 d).monitor.inputs.length = 12 ∧
      ((m c.1 c.2 d).monitor.get 2).divider = d ∧ d ≤ ((m c.1 c.2 d).monitor.get 2).leakDivider := by
  unfold Released CountersSound; decide

theorem witness_PeerCountsActAtTheirLimits_expiry :
    (Running aged ∧ aged.peers.entries.Pairwise (fun a b => a.station < b.station) ∧
      (∃ e ∈ aged.peers.entries, e.station = 10 ∧ 24 ≤ e.age) ∧ aged.intake.leverOwner = some 10) ∧ OwnerSound aged := by
  refine ⟨by unfold Running Released; decide, ?_, fun _ _ => by decide, by decide⟩
  intro p h
  have : p = 10 := (Option.some.inj h).symm
  subst this
  decide

/-- Outside RUNNING. -/
theorem witness_PeerCountsActAtTheirLimits_outside :
    let s := (station .barred).setPeers aged.peers
    Released s ∧ s.loader.state ≠ .running ∧ s.peers.entries.Pairwise (fun a b => a.station < b.station) ∧
      ∃ e ∈ s.peers.entries, e.station = 10 ∧ 24 ≤ e.age := by
  unfold Released; decide

theorem witness_PeerCountsActAtTheirLimits :
    let q := fun n => withPeers (fun v => { v with quiet := n, repeatCount := n }) onAir
    let a := withPort (fun p => { p with attempt := some ⟨.standing, 0, false, []⟩ }) (q 8)
    (Released (q 24) ∧ 24 ≤ (q 24).peers.quiet) ∧ (Released (q 23) ∧ (q 23).peers.quiet < 24) ∧
    (Running (q 8) ∧ 8 ≤ (q 8).peers.repeatCount ∧ (q 8).port.attempt = none) ∧ (Running (q 7) ∧ (q 7).peers.repeatCount < 8) ∧
    (Running a ∧ 8 ≤ a.peers.repeatCount ∧ ∃ x, a.port.attempt = some x ∧ x.slot = .standing) := by
  refine ⟨⟨rfl, by decide⟩, ⟨rfl, by decide⟩, ⟨⟨rfl, rfl⟩, by decide, rfl⟩, ⟨⟨rfl, rfl⟩, by decide⟩, ⟨rfl, rfl⟩, by decide, _, rfl, rfl⟩

/-- A line IDLE and BUSY, a port ready and waiting, and, of whole assemblies, one with a check that differs, one of a kind and one of a length
that are not delivered, and a TAKE that is. -/
theorem witness_LineStateFollowsTheLine :
    let s := after (exec .lineIdle onAir)
    let w := withPort (fun p => { p with rx := .waitIdle }) onAir
    (Released s ∧ s.port.lineState = .idle ∧ s.port.rx = .ready) ∧
    (Released onAir ∧ onAir.port.lineState = .busy ∧ onAir.port.rx ≠ .waitIdle) ∧
    (Released w ∧ w.port.rx = .waitIdle ∧ Instr.takeArrival h105 0 ∈ arrivalsFrom h105 0 0 0 [] [] []) ∧
    (3 ≤ [0#8, 16#8, 41#8].length ∧ 40 < ([0#8, 16#8, 41#8].getD 2 0).toNat) ∧
    (∀ body ∈ [[0#8, 160#8, 0#8], [0#8, 64#8, 2#8, 0#8, 0#8], [40#8, 69#8, 1#8, 0#8]],
      body.length = 3 + (body.getD 2 0).toNat ∧ (body.getD 2 0).toNat ≤ 40) ∧
    (frameCheck [40#8, 69#8, 1#8, 0#8]).toNat ≠ 0 := by
  unfold Released; decide +kernel

theorem witness_AttemptSendsStandingBeforeRefusals :
    let s := withPort (fun p => { p with standingPending := true }) refusing
    (Running s ∧ s.port.lineState = .idle ∧ s.port.attempt = none ∧ s.port.budgetCount < 4 ∧ s.port.standingPending = true) ∧
    (Running refusing ∧ refusing.port.standingPending = false ∧ refusing.port.refusals = ⟨10, .take, .transitionRunning, 0, 0⟩ :: []) ∧
    (withPort (fun p => { p with budgetCount := 3 }) s).port.budgetCount < 4 ∧
    4 ≤ (withPort (fun p => { p with budgetCount := 4 }) s).port.budgetCount ∧
    (station .listening).loader.state ≠ .running ∧ onAir.port.lineState = .busy ∧ (sending false).port.attempt ≠ none ∧
    (onAir.port.standingPending = false ∧ onAir.port.refusals = []) := by
  unfold Running Released; decide

theorem witness_StandingCarriesTheSets : onAir.crosspoint.programme = some 53 ∧ onAir.engine.progress ≤ 1024 ∧
    onAir.monitor.inputs.length = 12 ∧ onAir.intake.leverOwner = some 10 ∧ calm.crosspoint.programme = some 53 ∧
    calm.intake.leverOwner = none := by decide

theorem witness_AttemptsEndAsTheLineDecides_byte0 :
    let s := sending false
    let t := withPort (fun p => { p with budgetField := 1 }) s
    (Released s ∧ s.port.attempt = some ⟨.refusal, 0, false, []⟩ ∧ 0 = s.port.budgetField) ∧
    (Released t ∧ t.port.attempt = some ⟨.refusal, 0, false, []⟩ ∧ 0 ≠ t.port.budgetField) := by
  unfold Released; decide

theorem witness_AttemptsEndAsTheLineDecides_errors :
    let st := fun n => withPort (fun p =>
      { p with standingPending := true, standingErrors := n, attempt := some ⟨.standing, 0, true, []⟩ }) onAir
    let rf := fun n => withPort (fun p => { p with refusals := [⟨10, .take, .loop, 0, n⟩], attempt := some ⟨.refusal, 0, true, []⟩ }) onAir
    (∀ n ∈ [1, 2], Released (st n) ∧ (st n).port.attempt = some ⟨.standing, 0, true, []⟩ ∧ (st n).port.standingErrors = n ∧
      (st n).port.refusals = []) ∧
    (∀ n ∈ [1, 2, 3], Released (rf n) ∧ (rf n).port.attempt = some ⟨.refusal, 0, true, []⟩ ∧ (rf n).port.standingErrors < 3 ∧
      (rf n).port.refusals = ⟨10, .take, .loop, 0, n⟩ :: []) ∧
    (Released (st 3) ∧ 3 ≤ (st 3).port.standingErrors) ∧
    (Released onAir ∧ onAir.port.standingErrors < 3 ∧ ∀ r ∈ onAir.port.refusals, r.errors < 3) := by
  unfold Released; decide

/-- The sound port of the first half of that statement. -/
theorem witness_AttemptsEndAsTheLineDecides_port :
    PortSound (withPort (fun p => { p with standingPending := true, standingErrors := 2, attempt := some ⟨.standing, 0, true, []⟩ }) onAir) ∧
    PortSound (withPort (fun p => { p with refusals := [⟨10, .take, .loop, 0, 2⟩], attempt := some ⟨.refusal, 0, true, []⟩ }) onAir) := by
  constructor <;> refine ⟨by decide, by decide, by decide, by decide, ?_, fun h => absurd rfl h⟩ <;> intro a ha <;> cases ha <;> decide

theorem witness_AttemptsEndAsTheLineDecides_completed :
    let st := withPort (fun p => { p with standingPending := true, attempt := some ⟨.standing, 0, true, []⟩ }) onAir
    (Released st ∧ st.port.attempt = some ⟨.standing, 0, true, []⟩) ∧
    (Released (sending true) ∧ (sending true).port.attempt = some ⟨.refusal, 0, true, []⟩ ∧
      (sending true).port.refusals = ⟨10, .take, .transitionRunning, 0, 0⟩ :: []) := by
  unfold Released; decide

theorem witness_HeardFramesAreRecorded_delegate :
    Heard onAir 3 ∧ onAir.peers.entries.Pairwise (fun a b => a.station < b.station) ∧ (0x85#8).getLsbD 7 = true ∧
    (0x05#8).getLsbD 7 = false ∧ onAir.loader.state = .running ∧ onAir.intake.leverPolicy = .fixed ∧
    (Heard (station .listening) 3 ∧ (station .listening).loader.state ≠ .running) := by
  unfold Heard Receiving Released; decide

theorem witness_HeardFramesAreRecorded_standing :
    Heard onAir 10 ∧ standing40.length = 29 ∧ onAir.peers.entries.Pairwise (fun a b => a.station < b.station) ∧
    (Heard (station .barred) 10 ∧ (station .barred).loader.state ≠ .running) := by
  unfold Heard Receiving Released; decide

theorem witness_HeardFramesAreRecorded_refusal :
    Heard onAir 10 ∧ Heard onAir 11 ∧ onAir.peers.entries.Pairwise (fun a b => a.station < b.station) ∧
    onAir.peers.find 10 = some { station := 10, age := 3, kind := .panel (some 5) } ∧ onAir.peers.find 11 = none := by
  unfold Heard Receiving Released; decide

theorem witness_DuplicateAndOutsideArrivalsQueueNothing_own :
    (∀ st ∈ [StationState.listening, .running, .barred], Receiving (station st) ∧ (station st).loader.state = st ∧
      (hdr 5 5).sender = (station st).loader.station) ∧
    ∀ n ∈ [2, 21], ∀ k ∈ [3, 20], Instr.standingArrival (hdr 5 5) standing40 ∈
      arrivalsFrom (hdr 5 5) 0 0 0 (List.replicate n 0) (List.replicate k 0) standing40 := by
  unfold Receiving Released; decide

theorem witness_DuplicateAndOutsideArrivalsQueueNothing :
    (Receiving (station .loading) ∧ (station .loading).loader.state = .loading) ∧
    (Heard (station .listening) 10 ∧ (station .listening).loader.state ≠ .running) ∧
    (Heard (station .barred) 10 ∧ (station .barred).loader.state ≠ .running) ∧
    (Instr.takeArrival h105 0, some (Action.take .cut), FrameKind.take, (0 : Byte)) ∈ panelCommands h105 0 0 [0, 0] [1, 0, 0] := by
  unfold Heard Receiving Released; decide

/-- Station 5 with the queue of 16 entries. -/
def full : State := withIntake (fun t => { t with queue := List.replicate 16 { action := .take .cut, sender := 10, due := 1 } }) onAir

/-- A mask of no field, one of every field, an illegal code and a wrong length. -/
theorem witness_SettingsFramesAreReadAndClamped :
    fieldOffset [1, 2, 1, 1, 2, 2, 2, 2, 2, 2, 2] 0 11 = 0 ∧ fieldOffset [1, 2, 1, 1, 2, 2, 2, 2, 2, 2, 2] 2047 11 = 19 ∧
    fieldValue [1, 2, 1, 1, 2, 2, 2, 2, 2, 2, 2] 1 [2] 0 = some 2 ∧ fieldOffset [1, 2, 1, 1, 2, 2, 2, 2, 2, 2, 2] 1 11 ≠ [2#8, 2#8].length ∧
    fieldOffset [1, 2, 1, 1, 2, 1, 2, 2, 2, 2, 1] 2047 11 = 17 ∧ fieldValue [1, 2, 1, 1, 2, 1, 2, 2, 2, 2, 1] 1024 [5] 10 = some 5 ∧
    (fieldOffset [1, 2, 1, 1, 2, 1, 2, 2, 2, 2, 1] 1024 11 = [4#8].length ∧ layerOfNat (1#8).toNat = some .l1 ∧
      fieldValue [1, 2, 1, 1, 2, 1, 2, 2, 2, 2, 1] 1024 [4] 10 = some 4) ∧
    ((11#8).toNat = (11 : InputNo).val ∧ 11 < (12#8).toNat ∧ 4 < (5#8).toNat ∧ 1 < (2#8).toNat ∧
      ([.l1, .l2, .l3, .l4] : List Layer)[(4#8).toNat - 1]? = some .l4) := by decide

theorem witness_AcceptedCommandsJoinTheQueue :
    let held := withIntake (fun t => { t with queue := [{ action := .select .pst 7, sender := 11, due := 1 }] }) full
    Addressed onAir h105 ∧ Addressed held h105 ∧
    (Instr.pickArrival h105 1 9, some (Action.select .pst 9), FrameKind.pick, (1 : Byte)) ∈ panelCommands h105 1 9 [0, 0] [1, 0, 0] ∧
    onAir.delegatedHere 10 = true ∧ (onAir.intake.permission 10).allows (.select .pst 9) = true ∧ onAir.intake.queue.length < 16 ∧
    (held.delegatedHere 10 = true ∧ (∃ e ∈ held.intake.queue, e.action.key ≠ none ∧ e.action.key = (Action.select .pst 9).key)) := by
  unfold Addressed Receiving Released; decide

theorem witness_LeverFramesFollowThePolicy :
    let other := withIntake (fun t => { t with leverOwner := none }) onAir
    let latest := withIntake (fun t => { t with leverOwner := none, leverPolicy := .latest }) onAir
    (Addressed onAir h105 ∧ onAir.delegatedHere 10 = true ∧ onAir.intake.permission 10 = .full ∧ onAir.intake.queue.length < 16 ∧
      onAir.intake.leverOwner = some 10) ∧
    (Addressed other h105 ∧ other.delegatedHere 10 = true ∧ other.intake.leverOwner ≠ some 10 ∧ other.intake.leverPolicy = .fixed) ∧
    (Addressed latest h105 ∧ latest.delegatedHere 10 = true ∧ latest.intake.leverOwner ≠ some 10 ∧
      latest.intake.leverPolicy = .latest) := by
  unfold Addressed Receiving Released; decide

theorem witness_RefusalsAtArrivalComeInOrder :
    let watch := withIntake (fun t => { t with permissions := List.replicate 16 .watch }) onAir
    (Addressed onAir (hdr 11 5) ∧ onAir.delegatedHere 11 = false) ∧
    (Addressed onAir h105 ∧ onAir.delegatedHere 10 = true ∧
      (Instr.takeArrival h105 2, none, FrameKind.take, (0 : Byte)) ∈ panelCommands h105 2 0 [0, 0] [1, 0, 0]) ∧
    (Addressed watch h105 ∧ watch.delegatedHere 10 = true ∧ (watch.intake.permission 10).allows (.take .auto) = false ∧
      (Instr.takeArrival h105 1, some (Action.take .auto), FrameKind.take, (0 : Byte)) ∈ panelCommands h105 1 0 [0, 0] [1, 0, 0]) := by
  unfold Addressed Receiving Released; decide

theorem witness_FullQueueRefuses :
    Addressed full h105 ∧
    (Instr.takeArrival h105 1, some (Action.take .auto), FrameKind.take, (0 : Byte)) ∈ panelCommands h105 1 0 [0, 0] [1, 0, 0] ∧
    full.delegatedHere 10 = true ∧ (full.intake.permission 10).allows (.take .auto) = true ∧ full.intake.queue.length = 16 ∧
    (∀ e ∈ full.intake.queue, e.action.key = none ∨ e.action.key ≠ (Action.take .auto).key) := by
  unfold Addressed Receiving Released; decide

/-- The same for the entry of a LEVER frame of the owner. -/
theorem witness_FullQueueRefuses_lever :
    (Instr.leverArrival h105 1 0, some (Action.lever 256), FrameKind.lever, (0 : Byte)) ∈ panelCommands h105 1 0 [0, 0] [1, 0, 0] ∧
    full.intake.leverPolicy = .fixed ∧ full.intake.leverOwner = some 10 ∧ (full.intake.permission 10).allows (.lever 256) = true ∧
    ∀ e ∈ full.intake.queue, e.action.key = none ∨ e.action.key ≠ (Action.lever 256).key := by
  decide +kernel

/-- Station 5 in link group 2 with station 2 of the same group live, and panel 11 delegated to station 2. -/
def linked : State :=
  withIntake (fun t => { t with linkGroup := 2 }) (withPeers (fun v => { v with entries :=
    [{ station := 2, age := 0, kind := .mix { programme := 40, linkGroup := 2, final := false, contribution := 1#64, next := 1#64 } },
     { station := 11, age := 0, kind := .panel (some 2) }] }) onAir)

theorem witness_LinkTakesAreFollowed :
    (Receiving linked ∧ linked.loader.state = .running ∧ (11 : Station) ≠ linked.loader.station ∧ (2 : Station) ≠ linked.loader.station ∧ linked.intake.linkGroup ≠ 0 ∧
      linked.peers.find 2 =
        some ⟨2, 0, .mix { programme := 40, linkGroup := 2, final := false, contribution := 1#64, next := 1#64 }⟩ ∧
      linked.peers.find 11 = some { station := 11, age := 0, kind := .panel (some 2) } ∧ linked.intake.permission 11 = .full ∧
      takeModeOf (1#8).toNat = some .auto ∧ linked.intake.queue.length < 16) ∧
    (Receiving onAir ∧ onAir.loader.state = .running ∧ onAir.intake.linkGroup = 0) ∧ 1 < (2#8).toNat ∧
    (Instr.nextselArrival (hdr 11 2) 0, nextselAction 0, FrameKind.nextsel, (0 : Byte)) ∈
      panelCommands (hdr 11 2) 0 0 [0, 0] [1, 0, 0] := by
  unfold Receiving Released; decide

/-- Station 5 at rest and on the air with panel 10 live, and the deadline of its field taken, with one entry waiting. -/
def holding (a : Action) : State :=
  withIntake (fun t => { t with queue := [{ action := a, sender := 10, due := 1 }] }) (withRaster (fun r => { r with deadlineFlag := true }) onAir)

/-- What the owner of that entry takes it on. -/
def advanced (s : State) : State := advanceAll (openField (moveCounters (s.raster.runTo s.raster.switchLines) s))

theorem holding_owner (a : Action) : OwnerSound (holding a) := by
  refine ⟨?_, fun _ _ => rfl, fun h => absurd rfl h⟩
  intro p h
  cases h
  rfl

theorem witness_OfferedEntriesLeaveOrAreDeferred (a : Action) : Running (holding a) ∧ (holding a).raster.deadlineFlag = true ∧
    (∀ x ∈ (holding a).peers.entries, x.age < 23) ∧ cycleNumbers (holding a) = none ∧
    (holding a).intake.queue = [{ action := a, sender := 10, due := 1 }] ∧ 1 ≤ (holding a).raster.field + 1 ∧
    (holding a).engine.state = .idle ∧ (holding a).engine.latest = none ∧ (∀ l, ((holding a).keys.get l).state = .off) := by
  refine ⟨⟨rfl, rfl⟩, rfl, ?_, (by decide : cycleNumbers onAir = none), rfl, Nat.le_refl 1, rfl, rfl, ?_⟩
  · intro x h
    cases List.mem_singleton.1 h
    decide
  · intro l
    cases l <;> rfl

/-- A SELECT is applied, one of an unmapped source is refused, and in an AUTO run a NEXTSEL is deferred. -/
theorem witness_OfferedEntriesLeaveOrAreDeferred_answers :
    (∃ v, offer { action := .select .pst 5, sender := 10, due := 1 } (advanced (holding (.select .pst 5))) = .applied v) ∧
    offer { action := .select .pst 40, sender := 10, due := 1 } (advanced (holding (.select .pst 40))) = .refused .missingSource 1 ∧
    offer { action := .nextsel Selection.reset, sender := 10, due := 1 }
      (advanced (withEngine (fun e => { e with state := .auto, elapsed := 3 }) (holding (.nextsel Selection.reset)))) = .deferred :=
  ⟨⟨_, rfl⟩, rfl, rfl⟩

/-- A TRANSET of rate 5 due at the next switch point, alone in the queue of a station at rest, and of one in an AUTO run that goes on; a
NEXTSEL; and a KEYSET without a stack position. -/
theorem witness_SettingsEntriesReplaceWhatTheyCarry :
    let f : TransetFields := { type := none, rate := some 5, pattern := none, mode := none, cx := none, cy := none, softness := none,
                               borderWidth := none, borderY := none, borderCb := none, borderCr := none }
    let e : Entry := { action := .transet f, sender := 10, due := 1 }
    let n : Entry := { action := .nextsel Selection.reset, sender := 10, due := 0 }
    let rest := fun x => withIntake (fun t => { t with queue := [x] }) (withRaster (fun r => { r with deadlineFlag := true }) onAir)
    let run := withEngine (fun g => { g with state := .auto, elapsed := 28, remaining := 30 }) (rest e)
    (∀ x ∈ [e, n], Running (rest x) ∧ (rest x).raster.deadlineFlag = true ∧ (∀ p ∈ (rest x).peers.entries, p.age < 23) ∧
      (rest x).intake.queue = [x] ∧ x.due ≤ (rest x).raster.field + 1 ∧ (rest x).engine.state = .idle ∧ (rest x).engine.latest = none) ∧
    (run.engine.state = .auto ∧ run.engine.elapsed + 1 < run.engine.remaining) ∧
    ({ type := none, clip := some 3, gain := none, invert := none, rate := none, maskMode := none, left := none, top := none,
       width := none, height := none, stackPosition := none } : KeysetFields).stackPosition = none := by
  unfold Running Released; decide

/-- Its peer announces nothing, so no cycle is found; so too where a live MIX peer does not lead back to it. -/
theorem witness_SettingsEntriesReplaceWhatTheyCarry_alone : cycleNumbers onAir = none ∧
    cycleNumbers (withPeers (fun v => { v with entries :=
      [⟨2, 0, .mix { programme := 3, linkGroup := 0, final := false, contribution := setSingle 4, next := 1#64 }⟩] }) onAir) = none := by
  decide

theorem witness_AutoRunAdvancesToCompletion :
    let s := fun n => withEngine (fun e => { e with state := .auto, elapsed := n, remaining := 30 })
      (withRaster (fun r => { r with deadlineFlag := true }) onAir)
    ∀ n ∈ [28, 29], Running (s n) ∧ (s n).raster.deadlineFlag = true ∧ (s n).intake.queue = [] ∧
      (∀ x ∈ (s n).peers.entries, x.age < 23) ∧ cycleNumbers (s n) = none ∧
      (s n).engine.state = .auto ∧ (s n).engine.elapsed = n ∧ (s n).engine.remaining = 30 := by
  unfold Running Released; decide

/-- In RUNNING, in BARRED, with FINAL set and clear; no input is named twice by the default map. -/
theorem witness_TallyLinesFollowTheSets :
    (∀ st ∈ [StationState.running, .barred], Released (station st) ∧ (station st).loader.state ≠ .loading ∧
      (station st).raster.deadlineFlag = true ∧ (station st).loader.final = false ∧ (station st).peers.entries = []) ∧
    (calm.setLoader { calm.loader with final := true }).loader.final = true ∧
    (∀ n : Source, (calm.crosspoint.entry n).map (fun e => e.input.val + 2) = if 2 ≤ n.val ∧ n.val ≤ 13 then some n.val else none) := by
  unfold Released; decide

/-- Station 5, programme number 53, shows source 3 on PGM, which a panel selected; source 3 is the programme of station 2, which shows 53. Its
Monitor gathers verdicts, as in every run. -/
def looped : State :=
  (((withPeers (fun v => { v with entries :=
      [⟨2, 0, .mix { programme := 3, linkGroup := 0, final := false, contribution := setSingle 53, next := 1#64 }⟩,
       ⟨10, 3, .panel (some 5)⟩] }) calm).setCrosspoint
    { calm.crosspoint with buses := { Buses.reset with pgm := { selected := 3, previous := 4, lastSelector := some 10, effective := 3 } } }).setSets
    { contribution := setSingle 3, next := 1#64 }).setMonitor { calm.monitor with gathering := true }

/-- The named numbers of that loop are 53 and 3; a station that shows nothing of a peer has none. -/
theorem witness_CyclesAreBrokenByReversion :
    (looped.crosspoint.programme = some 53 ∧ cycleNumbers looped = some [53, 3] ∧ looped.port.refusals.length ≤ 4 ∧
      resolveSource looped.crosspoint looped.monitor (looped.crosspoint.buses.get .pgm).selected = 3) ∧
    (looped.monitor.gathering = true ∧ Running looped ∧ looped.raster.deadlineFlag = true ∧ looped.intake.queue = [] ∧ (∀ e ∈ looped.peers.entries, e.age < 23) ∧
      looped.engine.state = .idle ∧ looped.engine.latest = none) ∧
    cycleNumbers calm = none := by
  unfold Running Released; decide

/-- At the first switch point the no-final flag rises, so a value differs; at the next, nothing does, with repeat counts 6 and 7. -/
theorem witness_StandingAnnouncesEveryChange :
    let again := fun n => withPeers (fun v => { v with repeatCount := n })
      (withRaster (fun r => { r with deadlineFlag := true }) (after (exec .switchPoint calm)))
    (Running calm ∧ calm.raster.deadlineFlag = true ∧ announcedOf (after (exec .switchPoint calm)) ≠ calm.peers.announced) ∧
    ∀ n ∈ [6, 7], Running (again n) ∧ (again n).raster.deadlineFlag = true ∧ (again n).peers.repeatCount = n ∧
      announcedOf (after (exec .switchPoint (again n))) = (again n).peers.announced := by
  unfold Running Released; decide +kernel

/-- Station 5 with three live MIX peers: 3 shows 4, 4 shows 53 and 6 shows neither. -/
def chained : State :=
  let mix := fun p x => PeerKind.mix { programme := p, linkGroup := 0, final := false, contribution := x, next := 1#64 }
  withPeers (fun v => { v with entries := [⟨2, 0, mix 3 (setSingle 4)⟩, ⟨3, 0, mix 4 (setSingle 53)⟩, ⟨4, 0, mix 6 (setSingle 7)⟩] }) onAir

theorem witness_SelectIsCheckedThenApplied :
    onAir.crosspoint.programme = some 53 ∧ onAir.crosspoint.canShow 14 = false ∧ onAir.crosspoint.canShow 13 = true ∧
    (onAir.setCrosspoint { onAir.crosspoint with programme := some 13 }).crosspoint.canShow 13 = true ∧
    (∀ n ∈ [(3 : Source), 4, 6], chained.crosspoint.canShow n = true) ∧ chained.crosspoint.programme = some 53 ∧
    (∀ e ∈ onAir.peers.entries, e.kind = .panel (some 5)) := by decide

/-- Its own number is reached from peer 3 through peer 4. -/
theorem witness_SelectIsCheckedThenApplied_through : Reaches (PeerShows chained) (setSingle 4 ||| 1#64) 53 :=
  .through (.member (n := 4) (by decide)) ⟨_, _, .tail _ (.head _), rfl, rfl, rfl⟩ (by decide)

/-- It is not reached from peer 6: what is reached there is 0 and 7. -/
theorem witness_SelectIsCheckedThenApplied_apart : ¬ Reaches (PeerShows chained) (setSingle 7 ||| 1#64) 53 := by
  have key : ∀ n, Reaches (PeerShows chained) (setSingle 7 ||| 1#64) n → n = 0 ∨ n = 7 := by
    intro n h
    induction h with
    | @member n h => exact (by decide : ∀ n : Source, setHas (setSingle 7 ||| 1#64) n = true → n = 0 ∨ n = 7) n h
    | @through _ n _ _ hs hn ih =>
      obtain ⟨e, m, he, hm, rfl, rfl⟩ := hs
      rcases List.mem_cons.1 he with rfl | he
      · cases hm; exact absurd ih (by decide)
      rcases List.mem_cons.1 he with rfl | he
      · cases hm; exact absurd ih (by decide)
      · cases List.mem_singleton.1 he
        cases hm
        exact absurd ih (by decide)
  intro h
  exact absurd (key 53 h) (by decide)

theorem witness_TakesAreRefusedInTwoCases_consumed :
    let e : Entry := { action := .take .auto, sender := 10, due := 1 }
    e.action = .take .auto ∧ offer e ended = .refused .transitionRunning 0 := ⟨rfl, rfl⟩

theorem witness_TakesAreRefusedInTwoCases :
    let bare := withEngine (fun e => { e with selection := { e.selection with background := false } }) onAir
    ended.engine.state = .auto ∧ (bare.engine.state = .idle ∧ bare.engine.selection.isEmpty = true) ∧
    (onAir.engine.state = .idle ∧ onAir.engine.selection.isEmpty = false) := by decide

/-- In IDLE with layer 1 (OFF), layer 2 (rising in its own mix) and the background selected, at rates 1, 2 and 30; in LEVER at progress 900
with R′ = 4 and with R′ = 1; and in AUTO. -/
theorem witness_TakesStartConvertAndCut :
    let s := fun rate => withEngine (fun e =>
      { e with selection := ⟨true, true, true, false, false⟩, settings := { e.settings with rate := rate } }) mixing
    let c := fun rate => withEngine (fun e => { e with settings := { e.settings with rate := rate } }) (levering 900)
    (∀ rate ∈ [1, 2, 30], (s rate).engine.state = .idle ∧ (s rate).engine.selection.isEmpty = false ∧
      (s rate).engine.settings.rate = rate) ∧
    (∀ l ∈ [Layer.l1, .l2, .l3, .l4], ((s 2).keys.get l).moving = false) ∧
    ((s 2).engine.selection.mask .l1 = true ∧ ((s 2).keys.get .l1).state = .off) ∧
    ((s 2).engine.selection.mask .l2 = true ∧ ((s 2).keys.get .l2).state = .rising) ∧ (s 2).engine.selection.mask .l3 = false ∧
    ((c 30).engine.state = .lever ∧ 1 < max 1 (((1024 - (c 30).engine.progress) * 30 + 1023) / 1024)) ∧
    ((c 5).engine.state = .lever ∧ max 1 (((1024 - (c 5).engine.progress) * 5 + 1023) / 1024) = 1) ∧
    (((c 30).keys.get .l1).state = .rising ∧ ((c 30).keys.get .l2).state = .falling ∧ ((c 30).keys.get .l1).moving = true) ∧
    ended.engine.state ≠ .idle := by decide

theorem witness_LeverIsFollowedOnceEngaged :
    let off := fun p => withEngine (fun e => { e with engaged := false }) (levering p)
    (∀ p ∈ [16, 17, 1007, 1008], (levering p).engine.state = .lever ∧ (levering p).engine.latest = some p ∧ p ≤ 1024 ∧
      (levering p).engine.engaged = true ∧ (levering p).engine.sense = .up ∧
      (((levering p).keys.get .l1).moving = true ∧ ((levering p).keys.get .l1).state = .rising) ∧
      (((levering p).keys.get .l2).moving = true ∧ ((levering p).keys.get .l2).state = .falling) ∧
      ((levering p).keys.get .l3).moving = false) ∧
    ((off 916).engine.engaged = false ∧ (916 ≤ (off 916).engine.progress + 16 ∧ (off 916).engine.progress ≤ 916 + 16)) ∧
    ((off 917).engine.engaged = false ∧ ¬ (917 ≤ (off 917).engine.progress + 16)) := by decide

/-- In IDLE: engaged at 17, 1007 and 1008, where a transition starts, and disengaged at the edges of the zones; an owner and another. -/
theorem witness_LeverIsFollowedOnceEngaged_idle :
    let s := fun g p => withEngine (fun e => { e with engaged := g, latest := some p, selection := ⟨true, true, false, false, false⟩ }) onAir
    (∀ p ∈ [16, 17, 1007, 1008], ∀ g ∈ [true, false], (s g p).engine.state = .idle ∧ (s g p).engine.latest = some p ∧ p ≤ 1024 ∧
      (s g p).engine.engaged = g ∧ (s g p).engine.sense = .up ∧ (s g p).engine.selection.isEmpty = false ∧
      (s g p).engine.selection.mask .l1 = true ∧ ((s g p).keys.get .l1).state = .off) ∧
    (onAir.intake.leverOwner = some 10 ∧ onAir.intake.leverOwner ≠ some 11) := by decide

theorem witness_KeytakeFollowsItsTable :
    let falling := withKeys (fun k => { k with layer3 := { k.layer3 with state := .falling, level := 69, elapsed := 14 } }) onAir
    let rest := fun st rate => withKeys (fun k =>
      { k with layer3 := { k.layer3 with state := st, settings := { k.layer3.settings with rate := rate } } }) onAir
    ((mixing.keys.get .l2).moving = false ∧ (mixing.keys.get .l2).state = .rising) ∧
    ((falling.keys.get .l3).moving = false ∧ (falling.keys.get .l3).state = .falling) ∧
    (∀ st ∈ [LayerState.off, .on], ∀ rate ∈ [1, 2], ((rest st rate).keys.get .l3).moving = false ∧
      ((rest st rate).keys.get .l3).state = st ∧ ((rest st rate).keys.get .l3).settings.rate = rate) ∧
    ((levering 500).keys.get .l1).moving = true := by decide

theorem witness_StackMovePermutes : [Layer.l3, .l1, .l4, .l2].Perm [.l1, .l2, .l3, .l4] ∧ 1 ≤ 4 ∧ 4 ≤ 4 ∧
    [Layer.l3, .l1, .l4, .l2][4 - 1]? = some .l2 := by decide

/-- A KEYSET that carries a stack position alone. -/
def stackTo (k : Nat) : KeysetFields :=
  { type := none, clip := none, gain := none, invert := none, rate := none, maskMode := none, left := none, top := none, width := none,
    height := none, stackPosition := some k }

/-- Applied at rest, and deferred in a lever transition and beside an own key mix. -/
theorem witness_StackMovePermutes_keyset : (stackTo 4).stackPosition = some 4 ∧ (∃ t, offerKeyset .l1 (stackTo 4) onAir = .applied t) ∧
    (∃ t, offerKeyset .l1 { stackTo 4 with clip := some 5, rate := some 9 } onAir = .applied t) ∧
    (levering 500).engine.state ≠ .idle ∧ (mixing.keys.get .l2).state = .rising := by
  refine ⟨rfl, ⟨_, rfl⟩, ⟨_, rfl⟩, by decide, by decide⟩

theorem witness_RestoreClearsFailed :
    let s := fun h n => withInput 3 (fun r => { r with health := h, count := n }) onAir
    ((s .faulty 8).monitor.inputs.length = 12 ∧ ((s .faulty 8).monitor.get 3).health ≠ .failed) ∧
    (∀ n ∈ [0, 7, 8], ((s .failed n).monitor.get 3).health = .failed ∧ ((s .failed n).monitor.get 3).count = n ∧
      (s .failed n).monitor.threshold = 8) := by decide

theorem witness_StepsKeepTheRasterSound : (CountersSound calm ∧ ReferenceSound calm) ∧ ∃ t, step calm = .next t :=
  ⟨by unfold CountersSound ReferenceSound; decide, _, rfl⟩

/-- The loader of the running station is sound. -/
theorem calm_loader : LoaderSound calm := by unfold LoaderSound; decide

theorem witness_StepsKeepThePortSound : (LoaderSound calm ∧ PortSound calm) ∧ LineSound calm ∧ ∃ t, step calm = .next t :=
  ⟨⟨calm_loader, by decide, by decide, by decide, by decide, (by intro a h; cases h), by decide⟩, (by intro h; cases h), _, rfl⟩

theorem witness_StepsKeepTheQueueSound : (LoaderSound calm ∧ QueueSound calm) ∧ ∃ t, step calm = .next t :=
  ⟨⟨calm_loader, by unfold QueueSound; decide⟩, _, rfl⟩

theorem witness_StepsKeepThePeerViewSound : (LoaderSound calm ∧ PeersSound calm ∧ CountsSound calm) ∧ ∃ t, step calm = .next t :=
  ⟨⟨calm_loader, by unfold PeersSound; decide, by unfold CountsSound; decide⟩, _, rfl⟩

theorem witness_StepsKeepTheLeverOwnerSound : (LoaderSound calm ∧ OwnerSound calm) ∧ ∃ t, step calm = .next t :=
  ⟨⟨calm_loader, (by intro p h; cases h), by decide, by decide⟩, _, rfl⟩

theorem witness_StepsKeepTheStackAPermutation : StackSound calm ∧ ∃ t, step calm = .next t :=
  ⟨by unfold StackSound; decide, _, rfl⟩

theorem witness_StepsKeepProgressAndLevelsSound :
    (LoaderSound calm ∧ RatesSound calm ∧ TransitionSound calm) ∧ ∃ t, step calm = .next t := by
  refine ⟨⟨calm_loader, ⟨?_, ?_⟩, ⟨rfl, rfl, rfl, rfl⟩, fun h => absurd rfl h, ?_, fun h => absurd rfl h⟩, _, rfl⟩
  · intro l; cases l <;> decide
  · intro e h; cases h
  · intro l; cases l <;> exact ⟨rfl, rfl, rfl⟩

/-- The sources of the running station are sound. -/
theorem calm_sources : SourcesSound calm := by
  refine ⟨?_, ?_, ?_, ?_, by decide⟩
  · intro b; unfold sourceSound; cases b <;> decide
  · intro b; cases b <;> decide
  · intro p h; cases h; decide
  · have backups : ∀ n, ((calm.crosspoint.entry n).bind (·.backup)) = none := by decide
    intro n e b he hb
    have := backups n
    rw [he] at this
    exact absurd (hb.symm.trans this) (by simp)

/-- The source sets of the running station are those of its composition. -/
theorem calm_sets : SetsSound calm := by unfold SetsSound; decide

theorem witness_StepsKeepTheSourcesSound : (LoaderSound calm ∧ SourcesSound calm ∧ SetsSound calm) ∧ ∃ t, step calm = .next t :=
  ⟨⟨calm_loader, calm_sources, calm_sets⟩, _, rfl⟩

theorem witness_StepsKeepTheMonitorSound : (LoaderSound calm ∧ MonitorSound calm) ∧ ∃ t, step calm = .next t :=
  ⟨⟨calm_loader, by unfold MonitorSound InputRecord.Sound; decide⟩, _, rfl⟩

theorem witness_StepsKeepTheTallySound : (LoaderSound calm ∧ TallySound calm) ∧ ∃ t, step calm = .next t :=
  ⟨⟨calm_loader, by unfold TallySound; decide⟩, _, rfl⟩

theorem witness_SoundSourcesShowNoFailureAndNoLoop : SourcesSound calm ∧ SetsSound calm := ⟨calm_sources, calm_sets⟩

/-- Source 5 with its input FAILED and no backup, BLACK as backup, and source 6 as backup with its input in and out of FAILED. -/
theorem witness_SoundSourcesShowNoFailureAndNoLoop_table :
    let c := fun b => { calm.crosspoint with map := calm.crosspoint.map.set 3 (some { input := 3, backup := b, failover := true }) }
    let m := fun h => (withInput 3 (fun r => { r with health := .failed }) (withInput 4 (fun r => { r with health := h }) calm)).monitor
    (∀ b ∈ [none, some (0 : Source), some 6], (c b).entry 5 = some { input := 3, backup := b, failover := true } ∧
      (c b).entry 6 = some { input := 4, backup := none, failover := false }) ∧
    (∀ h ∈ [Health.clean, .failed], ((m h).get 3).health = .failed ∧ ((m h).get 4).health = h) ∧
    calm.crosspoint.entry 40 = none := by decide

end Sys2Proof.Tests
end

section
/-! PROOF. The family of the transitions: what a completion, an abandonment, a take and a lever evaluation make of the engine, the buses
and the layers, and the statements that rest on it. -/

namespace Sys2Proof.Machine

/-! ## One layer -/

/-- The end state of a layer is OFF in OFF and in FALLING (R8). -/
theorem LayerState.endsOn_eq_false_iff (x : LayerState) : x.endsOn = false ↔ x = .off ∨ x = .falling := by
  cases x <;> simp [LayerState.endsOn]

/-- A layer that ends OFF starts to rise (R24). -/
theorem turnLayer_toRising {r : LayerRecord} (h : r.state = .off ∨ r.state = .falling) :
    turnLayer r = { r with state := .rising, elapsed := 0, moving := true } := by
  simp [turnLayer, (LayerState.endsOn_eq_false_iff _).2 h]

/-- A layer that ends ON starts to fall (R24). -/
theorem turnLayer_toFalling {r : LayerRecord} (h : ¬ (r.state = .off ∨ r.state = .falling)) :
    turnLayer r = { r with state := .falling, elapsed := 0, moving := true } := by
  simp [turnLayer, Bool.eq_true_of_not_eq_false (mt (LayerState.endsOn_eq_false_iff _).1 h)]

theorem followProgress_still (p : Nat) {r : LayerRecord} (hm : r.moving = false) : followProgress p r = r := by
  simp [followProgress, hm]

theorem followProgress_rising (p : Nat) {r : LayerRecord} (hm : r.moving = true) (hr : r.state = .rising) :
    followProgress p r = { r with level := p } := by
  simp [followProgress, hm, hr]

theorem followProgress_falling (p : Nat) {r : LayerRecord} (hm : r.moving = true) (hr : r.state = .falling) :
    followProgress p r = { r with level := 1024 - p } := by
  simp [followProgress, hm, hr]

theorem landLayer_rising {r : LayerRecord} (hm : r.moving = true) (hr : r.state = .rising) :
    landLayer r = { r with state := .on, level := 1024, elapsed := 0, moving := false } := by
  simp [landLayer, restLayer, hm, hr, LayerState.endsOn, restState, restLevel]

theorem landLayer_falling {r : LayerRecord} (hm : r.moving = true) (hr : r.state = .falling) :
    landLayer r = { r with state := .off, level := 0, elapsed := 0, moving := false } := by
  simp [landLayer, restLayer, hm, hr, LayerState.endsOn, restState, restLevel]

theorem returnLayer_still {r : LayerRecord} (hm : r.moving = false) : returnLayer r = r := by
  simp [returnLayer, hm]

theorem returnLayer_rising {r : LayerRecord} (hm : r.moving = true) (hr : r.state = .rising) :
    returnLayer r = { r with state := .off, level := 0, elapsed := 0, moving := false } := by
  simp [returnLayer, restLayer, hm, hr, LayerState.endsOn, restState, restLevel]

theorem returnLayer_falling {r : LayerRecord} (hm : r.moving = true) (hr : r.state = .falling) :
    returnLayer r = { r with state := .on, level := 1024, elapsed := 0, moving := false } := by
  simp [returnLayer, restLayer, hm, hr, LayerState.endsOn, restState, restLevel]

/-! ## Writing the progress, starting, completing, abandoning -/

@[simp] theorem setProgress_get (p : Nat) (s : State) (l : Layer) :
    (setProgress p s).keys.get l = followProgress p (s.keys.get l) := by
  simp [setProgress]

@[simp] theorem startTransition_get (s : State) (l : Layer) :
    (startTransition s).keys.get l = if s.engine.selection.mask l then turnLayer (s.keys.get l) else s.keys.get l := by
  simp [startTransition]

theorem complete_engine (s : State) :
    (complete s).engine =
      { s.engine.atRest with direction := s.engine.direction ^^ togglesDirection s.engine.settings } := rfl

@[simp] theorem complete_get (s : State) (l : Layer) : (complete s).keys.get l = landLayer (s.keys.get l) := by
  simp [complete]

/-- A completion of a transition that includes the background puts the selection of PST on PGM (R29, R95). -/
theorem complete_pgm_of_background (s : State) (h : s.engine.selection.background = true) :
    (complete s).crosspoint.buses.pgm.selected = s.crosspoint.buses.pst.selected := by
  simp [complete, swapBuses, h]

@[simp] theorem abandon_get (s : State) (l : Layer) : (abandon s).keys.get l = returnLayer (s.keys.get l) := by
  simp [abandon]

/-- A completion clears the engaged flag, whatever it was (R29). -/
theorem complete_of_engaged (s : State) (b : Bool) : complete (s.setEngine { s.engine with engaged := b }) = complete s := rfl

/-- An abandonment clears the engaged flag, whatever it was (R32). -/
theorem abandon_of_engaged (s : State) (b : Bool) : abandon (s.setEngine { s.engine with engaged := b }) = abandon s := rfl

/-! ## The direction bit (R31) -/

theorem togglesDirection_eq (t : TransSettings) : togglesDirection t = decide (t.type = .wipe ∧ t.mode = .alternate) := by
  simp [togglesDirection, Bool.beq_eq_decide_eq]

/-- A completion toggles the direction bit under a WIPE with ALTERNATE and leaves it otherwise. -/
theorem complete_direction (s : State) :
    (complete s).engine.direction =
      (s.engine.direction ^^ decide (s.engine.settings.type = .wipe ∧ s.engine.settings.mode = .alternate)) := by
  rw [complete_engine, ← togglesDirection_eq]

/-! ## Takes (R26 to R28) -/

theorem offerTakeCut_idle {s : State} (h : s.engine.state = .idle) :
    offerTakeCut s =
      if s.engine.selection.isEmpty then .refused .emptyNext 0 else .applied (complete (startTransition s)) := by
  simp [offerTakeCut, h]

theorem offerTakeCut_running {s : State} (h : s.engine.state ≠ .idle) : offerTakeCut s = .applied (complete s) := by
  cases hs : s.engine.state with
  | idle => exact absurd hs h
  | auto | lever => simp [offerTakeCut, hs]

theorem offerTakeAuto_auto {s : State} (h : s.engine.state = .auto) : offerTakeAuto s = .refused .transitionRunning 0 := by
  simp [offerTakeAuto, h]

theorem offerTakeAuto_idle {s : State} (h : s.engine.state = .idle) :
    offerTakeAuto s =
      if s.engine.selection.isEmpty then .refused .emptyNext 0
      else .applied (beginRun 0 s.engine.settings.rate (startTransition s)) := by
  simp [offerTakeAuto, h]

theorem offerTakeAuto_lever {s : State} (h : s.engine.state = .lever) :
    offerTakeAuto s =
      .applied (beginRun s.engine.progress (convertedRate s.engine.progress s.engine.settings.rate) s) := by
  simp [offerTakeAuto, h]

/-- Every applied TAKE CUT is a completion, from IDLE of the transition it starts, with the engine's settings and direction bit as
they stood. -/
theorem offerTakeCut_applied {s t : State} (h : offerTakeCut s = .applied t) : ∃ u, u.engine = s.engine ∧ t = complete u := by
  by_cases hs : s.engine.state = .idle
  · rw [offerTakeCut_idle hs] at h
    split at h
    · cases h
    · cases h
      exact ⟨startTransition s, by simp, rfl⟩
  · rw [offerTakeCut_running hs] at h
    cases h
    exact ⟨s, rfl, rfl⟩

/-- A TAKE CUT that does not find an empty selection in IDLE completes. -/
theorem offerTakeCut_accepted (s : State) (h : ¬ (s.engine.state = .idle ∧ s.engine.selection.isEmpty = true)) :
    ∃ t, offerTakeCut s = .applied t ∧ t.engine.state = .idle ∧ t.engine.progress = 0 := by
  by_cases hs : s.engine.state = .idle
  · exact ⟨_, by rw [offerTakeCut_idle hs, if_neg fun he => h ⟨hs, he⟩], rfl, rfl⟩
  · exact ⟨_, offerTakeCut_running hs, rfl, rfl⟩

/-- A TAKE AUTO outside AUTO that does not find an empty selection in IDLE is applied. -/
theorem offerTakeAuto_accepted (s : State) (h : ¬ (s.engine.state = .idle ∧ s.engine.selection.isEmpty = true))
    (ha : s.engine.state ≠ .auto) : ∃ t, offerTakeAuto s = .applied t := by
  cases hs : s.engine.state with
  | idle => exact ⟨_, by rw [offerTakeAuto_idle hs, if_neg fun he => h ⟨hs, he⟩]⟩
  | auto => exact absurd hs ha
  | lever => exact ⟨_, offerTakeAuto_lever hs⟩

/-! ## The lever (R37 to R40) -/

/-- A LEVER entry of the owner sets the position and is evaluated; any other is consumed without effect (R36). -/
theorem offerLever_owner (s : State) (sender : Station) (position : Nat) :
    (s.intake.leverOwner ≠ some sender → offerLever sender position s = .applied s) ∧
    (s.intake.leverOwner = some sender →
      offerLever sender position s = .applied (evaluate (s.setEngine { s.engine with latest := some position }))) :=
  ⟨fun h => if_neg h, fun h => if_pos h⟩

theorem derivedProgress_eq (sense : Sense) (position : Nat) :
    derivedProgress sense position = if sense = .up then position else 1024 - position := by
  cases sense <;> rfl

theorem absDiff_le_iff (a b k : Nat) : absDiff a b ≤ k ↔ a ≤ b + k ∧ b ≤ a + k := by
  unfold absDiff
  omega

theorem followLever_far {d : Nat} (s : State) (h : 1008 ≤ d) : followLever d s = complete s := by
  simp [followLever, atFarEnd, h]

theorem followLever_home {d : Nat} (s : State) (h : d ≤ 16) : followLever d s = abandon s := by
  have hf : ¬ 1008 ≤ d := by omega
  simp [followLever, atFarEnd, Config.endZone, h, hf]

theorem followLever_between {d : Nat} (s : State) (hl : 16 < d) (hr : d < 1008) : followLever d s = setProgress d s := by
  simp [followLever, atFarEnd, Config.endZone, Nat.not_le.2 hl, Nat.not_le.2 hr]

theorem Engine.pickUp_low (e : Engine) {p : Nat} (h : p ≤ 16) : e.pickUp p = { e with sense := .up, engaged := true } := by
  simp [Engine.pickUp, Config.endZone, h]

theorem Engine.pickUp_high (e : Engine) {p : Nat} (h : 1008 ≤ p) : e.pickUp p = { e with sense := .down, engaged := true } := by
  have hl : ¬ p ≤ 16 := by omega
  simp [Engine.pickUp, Config.endZone, h, hl]

theorem Engine.pickUp_between (e : Engine) {p : Nat} (hl : 16 < p) (hr : p < 1008) : e.pickUp p = { e with engaged := false } := by
  simp [Engine.pickUp, Config.endZone, Nat.not_le.2 hl, Nat.not_le.2 hr]

/-! ### In IDLE -/

/-- The start of a lever transition at progress `d` (R38). -/
def leverStart (d : Nat) (s : State) : State := setProgress d ((startTransition s).setEngine { s.engine with state := .lever })

/-- It changes the engine and the layers alone. -/
theorem leverStart_frame (d : Nat) (s : State) :
    leverStart d s = (s.setEngine (leverStart d s).engine).setKeys (leverStart d s).keys := rfl

theorem leverStart_get (d : Nat) (s : State) (l : Layer) :
    (leverStart d s).keys.get l =
      followProgress d (if s.engine.selection.mask l then turnLayer (s.keys.get l) else s.keys.get l) := by
  simp [leverStart]

theorem leverStart_get_rising (d : Nat) {s : State} {l : Layer} (hm : s.engine.selection.mask l = true)
    (hr : (s.keys.get l).state = .off ∨ (s.keys.get l).state = .falling) :
    (leverStart d s).keys.get l = { s.keys.get l with state := .rising, level := d, elapsed := 0, moving := true } := by
  rw [leverStart_get, if_pos hm, turnLayer_toRising hr, followProgress_rising d rfl rfl]

theorem leverStart_get_falling (d : Nat) {s : State} {l : Layer} (hm : s.engine.selection.mask l = true)
    (hr : ¬ ((s.keys.get l).state = .off ∨ (s.keys.get l).state = .falling)) :
    (leverStart d s).keys.get l = { s.keys.get l with state := .falling, level := 1024 - d, elapsed := 0, moving := true } := by
  rw [leverStart_get, if_pos hm, turnLayer_toFalling hr, followProgress_falling d rfl rfl]

theorem leverStart_get_still (d : Nat) {s : State} {l : Layer} (hm : s.engine.selection.mask l = false)
    (hs : (s.keys.get l).moving = false) : (leverStart d s).keys.get l = s.keys.get l := by
  rw [leverStart_get, if_neg (by simp [hm]), followProgress_still d hs]

/-- The condition on which a lever in IDLE starts a transition (R38). -/
def StartsTransition (e : Engine) (d : Nat) : Prop := e.engaged = true ∧ 16 < d ∧ e.selection.isEmpty = false

/-- The transition that a lever starts completes at once from 1008 (R38). -/
theorem evaluateIdle_starts {s : State} {position : Nat} (h : StartsTransition s.engine (derivedProgress s.engine.sense position)) :
    evaluateIdle position s =
      if 1008 ≤ derivedProgress s.engine.sense position then complete (leverStart (derivedProgress s.engine.sense position) s)
      else leverStart (derivedProgress s.engine.sense position) s := by
  obtain ⟨hg, hd, hn⟩ := h
  simp [evaluateIdle, atFarEnd, Config.endZone, leverStart, hg, hd, hn]

/-- A lever that starts no transition is picked up (R38). -/
theorem evaluateIdle_picksUp {s : State} {position : Nat}
    (h : ¬ StartsTransition s.engine (derivedProgress s.engine.sense position)) :
    evaluateIdle position s = s.setEngine (s.engine.pickUp position) := by
  refine if_neg fun hc => h ?_
  obtain ⟨hg, hd, hn⟩ := hc
  exact ⟨hg, hd, Bool.eq_false_of_not_eq_true hn⟩

theorem evaluate_idle {s : State} {position : Nat} (hs : s.engine.state = .idle) (hl : s.engine.latest = some position) :
    evaluate s = evaluateIdle position s := by
  simp [evaluate, hs, hl]

/-! ### In LEVER -/

/-- The lever is engaged, or its derived progress lies within 16 of the held progress (R39, R40). -/
def Engages (e : Engine) (d : Nat) : Prop := e.engaged = true ∨ (d ≤ e.progress + 16 ∧ e.progress ≤ d + 16)

/-- A lever that is engaged, or engages, is followed. -/
theorem evaluateLever_engages {s : State} {position : Nat} (h : Engages s.engine (derivedProgress s.engine.sense position)) :
    evaluateLever position s =
      followLever (derivedProgress s.engine.sense position) (s.setEngine { s.engine with engaged := true }) := by
  cases hg : s.engine.engaged with
  | true =>
    have same : s.setEngine { s.engine with engaged := true } = s := by rw [← hg]; rfl
    simp [evaluateLever, hg, same]
  | false =>
    have near := h.resolve_left (by simp [hg])
    simp [evaluateLever, hg, Config.endZone, absDiff_le_iff, near]

/-- Any other lever holds the transition. -/
theorem evaluateLever_holds {s : State} {position : Nat} (h : ¬ Engages s.engine (derivedProgress s.engine.sense position)) :
    evaluateLever position s = s := by
  obtain ⟨hg, hn⟩ := not_or.1 h
  simp [evaluateLever, hg, Config.endZone, absDiff_le_iff, hn]

theorem evaluate_lever {s : State} {position : Nat} (hs : s.engine.state = .lever) (hl : s.engine.latest = some position) :
    evaluate s = evaluateLever position s := by
  simp [evaluate, hs, hl]

end Sys2Proof.Machine

/-! ## The statements -/

namespace Sys2Proof.Transitions

open Sys2Proof Sys2Proof.Machine

/-- Settles O19: every clause reads off the completion's test of type and mode. -/
theorem directionBitTogglesAtAlternateWipes : Obligations.DirectionBitTogglesAtAlternateWipes := by
  refine ⟨?toggles, ?leaves, fun s => rfl, ?cut, ?transet, ?reads, rfl⟩
  case toggles =>
    intro s ht hm
    simp [complete_direction, ht, hm]
  case leaves =>
    intro s h
    rw [complete_direction]
    rcases h with h | h | h <;> simp [h]
  case cut =>
    intro s t h
    obtain ⟨u, hu, rfl⟩ := offerTakeCut_applied h
    rw [complete_direction, hu]
  case transet =>
    intro s t f h
    unfold offerTranset at h
    split at h
    · cases h
      rfl
    · cases h
  case reads =>
    intro settings u v h
    simp [patternValue, h]

/-- Settles O43: the answers of both takes, state by state. -/
theorem takesAreRefusedInTwoCases : Obligations.TakesAreRefusedInTwoCases := by
  intro s
  refine ⟨?running, ?autoEmpty, ?cutEmpty, fun h => ⟨offerTakeCut_accepted s h, offerTakeAuto_accepted s h⟩, ?consumed⟩
  case running =>
    refine ⟨fun h => ?_, offerTakeAuto_auto⟩
    cases hs : s.engine.state with
    | auto => rfl
    | idle => rw [offerTakeAuto_idle hs] at h; split at h <;> cases h
    | lever => rw [offerTakeAuto_lever hs] at h; cases h
  case autoEmpty =>
    refine ⟨fun h => by_contra fun hn => ?_, fun ⟨hs, he⟩ => by rw [offerTakeAuto_idle hs, if_pos he]⟩
    by_cases ha : s.engine.state = .auto
    · rw [offerTakeAuto_auto ha] at h
      cases h
    · obtain ⟨t, ht⟩ := offerTakeAuto_accepted s hn ha
      cases h.symm.trans ht
  case cutEmpty =>
    refine ⟨fun h => by_contra fun hn => ?_, fun ⟨hs, he⟩ => by rw [offerTakeCut_idle hs, if_pos he]⟩
    obtain ⟨t, ht, -⟩ := offerTakeCut_accepted s hn
    cases h.symm.trans ht
  case consumed =>
    intro e m reason waiting ha ho
    simp [ho, settleAnswer, ha, Action.frameKind]

/-- Settles O45: an evaluation in IDLE starts a transition or picks the lever up, and one in LEVER follows the lever when it is engaged
or engages, and holds otherwise. -/
theorem leverIsFollowedOnceEngaged : Obligations.LeverIsFollowedOnceEngaged := by
  refine ⟨offerLever_owner, ?idle, ?lever⟩
  case idle =>
    intro s position hs hl _ e d starts rising
    have hd : derivedProgress e.sense position = d := derivedProgress_eq _ _
    have begins (h : starts) : evaluate s = if 1008 ≤ d then complete (leverStart d s) else leverStart d s := by
      rw [evaluate_idle hs hl, evaluateIdle_starts (hd ▸ h), hd]
    have picksUp (h : ¬ starts) : evaluate s = s.setEngine (e.pickUp position) := by
      rw [evaluate_idle hs hl, evaluateIdle_picksUp (hd ▸ h)]
    refine ⟨fun h hb => ?_, fun h hf => ?_, fun h => ⟨fun hp => ?_, fun hp => ?_, fun hlo hhi => ?_⟩⟩
    · rw [begins h, if_neg (by omega)]
      exact ⟨rfl, leverStart_frame d s, fun _ => leverStart_get_rising d, fun _ => leverStart_get_falling d,
        fun _ => leverStart_get_still d⟩
    · rw [begins h, if_pos hf]
      refine ⟨rfl, rfl, complete_pgm_of_background (leverStart d s), fun l hm hr => ?_, fun l hm hr => ?_⟩
      · rw [complete_get, leverStart_get_rising d hm hr, landLayer_rising rfl rfl]
      · rw [complete_get, leverStart_get_falling d hm hr, landLayer_falling rfl rfl]
    · rw [picksUp h, Engine.pickUp_low _ hp]
    · rw [picksUp h, Engine.pickUp_high _ hp]
    · rw [picksUp h, Engine.pickUp_between _ hlo hhi]
  case lever =>
    intro s position hs hl _ d near
    have hd : derivedProgress s.engine.sense position = d := derivedProgress_eq _ _
    have followed (h : near) : evaluate s = followLever d (s.setEngine { s.engine with engaged := true }) := by
      rw [evaluate_lever hs hl, evaluateLever_engages (hd ▸ h), hd]
    refine ⟨fun h hf => ?_, fun h hn => ?_, fun h hlo hhi => ?_, fun h => ?_⟩
    · rw [followed h, followLever_far _ hf, complete_of_engaged]
      exact ⟨rfl, rfl, rfl, rfl, rfl, complete_pgm_of_background s⟩
    · rw [followed h, followLever_home _ hn, abandon_of_engaged]
      refine ⟨rfl, rfl, rfl, rfl, rfl, rfl, rfl, rfl, rfl, rfl, rfl, fun l => ?_⟩
      rw [abandon_get]
      exact ⟨returnLayer_still, returnLayer_rising, returnLayer_falling⟩
    · rw [followed h, followLever_between _ hlo hhi]
      refine ⟨rfl, fun l hm => ⟨fun hr => ?_, fun hr => ?_⟩⟩
      · rw [setProgress_get, State.setEngine_keys, followProgress_rising d hm hr]
      · rw [setProgress_get, State.setEngine_keys, followProgress_falling d hm hr]
    · rw [evaluate_lever hs hl, evaluateLever_holds (hd ▸ h)]

end Sys2Proof.Transitions
end

section
/-! PROOF. The family of the key layers: what a KEYTAKE makes of its layer, what a KEYSET with a stack position makes of the key unit,
and the statements that rest on it. -/

namespace Sys2Proof.Machine

/-! ## One layer (R47, R55) -/

/-- Bringing a layer to rest that does not move with the transition leaves its settings and its moving flag. -/
theorem restLayer_still (on : Bool) {r : LayerRecord} (hm : r.moving = false) :
    restLayer on r = { r with state := restState on, level := restLevel on, elapsed := 0 } := by
  simp [restLayer, hm]

/-- A layer that starts its own key mix goes to its other end (R55). -/
@[simp] theorem LayerState.endsOn_begun (x : LayerState) : (if x.endsOn then falling else rising).endsOn = !x.endsOn := by
  cases x <;> rfl

/-- At a key rate of 1 an own key mix has ended as it begins (R55). -/
theorem beginMix_ended {r : LayerRecord} (hrate : r.settings.rate = 1) : beginMix r = restLayer (!r.state.endsOn) r := by
  simp [beginMix, settleMix, restLayer, hrate]

theorem beginMix_off {r : LayerRecord} (hm : r.moving = false) (hs : r.state = .off) (hrate : 1 < r.settings.rate) :
    beginMix r = { r with state := .rising, level := 1024 / r.settings.rate, elapsed := 1 } := by
  simp [beginMix, settleMix, mixLevel, hm, hs, Nat.not_le.2 hrate, LayerState.endsOn]

theorem beginMix_on {r : LayerRecord} (hm : r.moving = false) (hs : r.state = .on) (hrate : 1 < r.settings.rate) :
    beginMix r = { r with state := .falling, level := 1024 - 1024 / r.settings.rate, elapsed := 1 } := by
  simp [beginMix, settleMix, mixLevel, hm, hs, Nat.not_le.2 hrate, LayerState.endsOn]

/-! ## KEYTAKE (R54 to R57) -/

/-- On a layer that moves with the transition both modes are refused (R57). -/
theorem offerKeytake_moving {s : State} {l : Layer} (m : KeytakeMode) (hm : (s.keys.get l).moving = true) :
    offerKeytake l m s = .refused .transitionRunning (layerNumber l) := by
  simp [offerKeytake, hm]

section
variable {s : State} {l : Layer} (hm : (s.keys.get l).moving = false)
include hm

/-- A cut ends an own key mix at its own end (R56). -/
theorem offerKeytake_cut_inMix (hx : (s.keys.get l).state.isMoving = true) :
    offerKeytake l .cut s =
      .applied (s.setKeys (s.keys.set l (restLayer (s.keys.get l).state.endsOn (s.keys.get l)))) := by
  simp [offerKeytake, hm, hx]

theorem offerKeytake_mix_inMix (hx : (s.keys.get l).state.isMoving = true) :
    offerKeytake l .mix s = .refused .transitionRunning (layerNumber l) := by
  simp [offerKeytake, hm, hx]

/-- A cut brings a layer at rest to its other end (R54). -/
theorem offerKeytake_cut_atRest (hx : (s.keys.get l).state.isMoving = false) :
    offerKeytake l .cut s =
      .applied (s.setKeys (s.keys.set l (restLayer (!(s.keys.get l).state.endsOn) (s.keys.get l)))) := by
  simp [offerKeytake, hm, hx]

theorem offerKeytake_mix_atRest (hx : (s.keys.get l).state.isMoving = false) :
    offerKeytake l .mix s = .applied (s.setKeys (s.keys.set l (beginMix (s.keys.get l)))) := by
  simp [offerKeytake, hm, hx]

end

/-! ## The move of a layer in the stack order (R53) -/

theorem moveInStack_perm {stack : List Layer} {l : Layer} (hl : l ∈ stack) (k : Nat) : (moveInStack stack l k).Perm stack :=
  calc (moveInStack stack l k).Perm (l :: ((stack.erase l).take (k - 1) ++ (stack.erase l).drop (k - 1))) := List.perm_middle
    _ = l :: stack.erase l := by rw [List.take_append_drop]
    List.Perm _ stack := (List.perm_cons_erase hl).symm

theorem moveInStack_getElem? {stack : List Layer} {l : Layer} {k : Nat} (hk : k - 1 ≤ (stack.erase l).length) :
    (moveInStack stack l k)[k - 1]? = some l := by
  have hlen : ((stack.erase l).take (k - 1)).length = k - 1 := List.length_take_of_le hk
  rw [moveInStack, List.getElem?_append_right (by omega), hlen, Nat.sub_self, List.getElem?_cons_zero]

/-- The other layers keep their relative order. -/
theorem moveInStack_erase {stack : List Layer} {l : Layer} (h : stack.Nodup) (k : Nat) :
    (moveInStack stack l k).erase l = stack.erase l := by
  have hl : l ∉ (stack.erase l).take (k - 1) := fun hm => h.not_mem_erase (List.mem_of_mem_take hm)
  rw [moveInStack, List.erase_append_right _ hl, List.erase_cons_head, List.take_append_drop]

/-- A move to the position where the layer stands changes nothing. -/
theorem moveInStack_present {stack : List Layer} {l : Layer} {k : Nat} (h : stack.Nodup) (hk : stack[k - 1]? = some l) :
    moveInStack stack l k = stack := by
  obtain ⟨hlt, rfl⟩ := List.getElem?_eq_some_iff.1 hk
  have herase : stack.erase stack[k - 1] = stack.take (k - 1) ++ stack.drop (k - 1 + 1) := by
    rw [h.erase_getElem, List.eraseIdx_eq_take_drop_succ]
  have hlen : (stack.take (k - 1)).length = k - 1 := List.length_take_of_le hlt.le
  rw [moveInStack, herase, List.take_left' hlen, List.drop_left' hlen, List.cons_getElem_drop_succ, List.take_append_drop]

/-! ## KEYSET with a stack position (R52, R53) -/

theorem KeyUnit.anyMoving_iff (k : KeyUnit) :
    k.anyMoving = true ↔ ∃ x, (k.get x).state = .rising ∨ (k.get x).state = .falling := by
  have moves (x : LayerState) : x.isMoving = true ↔ x = .rising ∨ x = .falling := by cases x <;> simp [LayerState.isMoving]
  have all (x : Layer) : x ∈ allLayers := by cases x <;> decide
  simp [KeyUnit.anyMoving, all, moves]

@[simp] theorem KeyUnit.get_withStack (k : KeyUnit) (order : List Layer) (x : Layer) : { k with stack := order }.get x = k.get x := by
  cases x <;> rfl

@[simp] theorem KeyUnit.set_get (k : KeyUnit) (l : Layer) : k.set l (k.get l) = k := by cases l <;> rfl

/-- The layer's record with the settings of the fields carried. -/
def KeysetFields.record (f : KeysetFields) (r : LayerRecord) : LayerRecord := { r with settings := applyKeyset f r.settings }

/-- The key unit with a KEYSET's fields applied to its layer and the layer moved to position `k`. -/
def KeyUnit.keysetAt (u : KeyUnit) (l : Layer) (f : KeysetFields) (k : Nat) : KeyUnit :=
  { u.set l (f.record (u.get l)) with stack := moveInStack u.stack l k }

theorem KeyUnit.keysetAt_get_same (u : KeyUnit) (l : Layer) (f : KeysetFields) (k : Nat) :
    (u.keysetAt l f k).get l = f.record (u.get l) := by
  simp [KeyUnit.keysetAt]

theorem KeyUnit.keysetAt_get_other (u : KeyUnit) {l x : Layer} (f : KeysetFields) (k : Nat) (h : x ≠ l) :
    (u.keysetAt l f k).get x = u.get x := by
  simp [KeyUnit.keysetAt, h]

/-- It changes no more of any layer than its settings. -/
theorem KeyUnit.keysetAt_get (u : KeyUnit) (l : Layer) (f : KeysetFields) (k : Nat) (x : Layer) :
    (u.keysetAt l f k).get x = { u.get x with settings := ((u.keysetAt l f k).get x).settings } := by
  by_cases h : x = l
  · subst h
    rw [keysetAt_get_same]
    rfl
  · rw [keysetAt_get_other u f k h]

/-- The answer to a KEYSET with a stack position (R52). -/
theorem offerKeyset_stacked {f : KeysetFields} {k : Nat} (hf : f.stackPosition = some k) (l : Layer) (s : State) :
    offerKeyset l f s =
      if s.engine.state ≠ .idle ∨ s.keys.anyMoving = true then .deferred else .applied (s.setKeys (s.keys.keysetAt l f k)) := by
  simp [offerKeyset, hf, KeyUnit.keysetAt, KeysetFields.record]

/-- What a KEYSET with a stack position makes of the state when it is applied. -/
theorem offerKeyset_applied {f : KeysetFields} {k : Nat} (hf : f.stackPosition = some k) {l : Layer} {s t : State}
    (h : offerKeyset l f s = .applied t) : t = s.setKeys (s.keys.keysetAt l f k) := by
  rw [offerKeyset_stacked hf] at h
  split at h
  · cases h
  · exact (Answer.applied.inj h).symm

/-- The announced values tell nothing of the key unit but its layers' states (R177). -/
theorem announcedOf_setKeys {s : State} {u : KeyUnit} (h : ∀ x, (u.get x).state = (s.keys.get x).state) :
    announcedOf (s.setKeys u) = announcedOf s := by
  have h1 : u.layer1.state = s.keys.layer1.state := h .l1
  have h2 : u.layer2.state = s.keys.layer2.state := h .l2
  have h3 : u.layer3.state = s.keys.layer3.state := h .l3
  have h4 : u.layer4.state = s.keys.layer4.state := h .l4
  simp [announcedOf, h1, h2, h3, h4]

end Sys2Proof.Machine

/-! ## The statements -/

namespace Sys2Proof.KeyLayers

open Sys2Proof Sys2Proof.Machine

/-- Settles O46: the table of KEYTAKE, state by state. -/
theorem keytakeFollowsItsTable : Obligations.KeytakeFollowsItsTable := by
  intro s l r becomes refused
  refine ⟨fun hm => ⟨fun hs => ?off, fun hs => ?on, fun hs => ?rising, fun hs => ?falling⟩, fun hm m => offerKeytake_moving m hm⟩
  case off =>
    have rest : r.state.isMoving = false := by rw [hs]; rfl
    have toggled : restLayer (!r.state.endsOn) r = { r with state := .on, level := 1024, elapsed := 0 } := by
      rw [hs]; exact restLayer_still true hm
    refine ⟨?_, fun hrate => ?_, fun hrate => ?_⟩
    · rw [offerKeytake_cut_atRest hm rest, toggled]
    · rw [offerKeytake_mix_atRest hm rest, beginMix_off hm hs hrate]
    · rw [offerKeytake_mix_atRest hm rest, beginMix_ended hrate, toggled]
  case on =>
    have rest : r.state.isMoving = false := by rw [hs]; rfl
    have toggled : restLayer (!r.state.endsOn) r = { r with state := .off, level := 0, elapsed := 0 } := by
      rw [hs]; exact restLayer_still false hm
    refine ⟨?_, fun hrate => ?_, fun hrate => ?_⟩
    · rw [offerKeytake_cut_atRest hm rest, toggled]
    · rw [offerKeytake_mix_atRest hm rest, beginMix_on hm hs hrate]
    · rw [offerKeytake_mix_atRest hm rest, beginMix_ended hrate, toggled]
  case rising =>
    have mixing : r.state.isMoving = true := by rw [hs]; rfl
    have ended : restLayer r.state.endsOn r = { r with state := .on, level := 1024, elapsed := 0 } := by
      rw [hs]; exact restLayer_still true hm
    exact ⟨by rw [offerKeytake_cut_inMix hm mixing, ended], offerKeytake_mix_inMix hm mixing⟩
  case falling =>
    have mixing : r.state.isMoving = true := by rw [hs]; rfl
    have ended : restLayer r.state.endsOn r = { r with state := .off, level := 0, elapsed := 0 } := by
      rw [hs]; exact restLayer_still false hm
    exact ⟨by rw [offerKeytake_cut_inMix hm mixing, ended], offerKeytake_mix_inMix hm mixing⟩

/-- Settles O47: the order by the lemmas about `moveInStack`, the rest by the answer to a KEYSET with a stack position. -/
theorem stackMovePermutes : Obligations.StackMovePermutes := by
  refine ⟨?order, ?applied, ?deferred⟩
  case order =>
    intro stack l k hp _ hk
    have hl : l ∈ stack := hp.mem_iff.2 (by cases l <;> decide)
    have hn : stack.Nodup := hp.nodup_iff.2 (by decide)
    have hlen : (stack.erase l).length = 3 := by rw [List.length_erase_of_mem hl, hp.length_eq]; rfl
    exact ⟨(moveInStack_perm hl k).trans hp, moveInStack_getElem? (by omega), moveInStack_erase hn k, moveInStack_present hn⟩
  case applied =>
    intro s t l f k hf h
    obtain rfl := offerKeyset_applied hf h
    have hget := s.keys.keysetAt_get l f k
    refine ⟨rfl, rfl, hget, fun x => s.keys.keysetAt_get_other f k, ?fields, ?alone,
      announcedOf_setKeys fun x => by rw [hget], fun _ => rfl, fun _ => rfl⟩
    case fields =>
      rw [State.setKeys_keys, KeyUnit.keysetAt_get_same]
      rfl
    case alone =>
      intro stackOnly
      have unset : f.record (s.keys.get l) = s.keys.get l := by rw [stackOnly]; rfl
      rw [State.setKeys_keys, KeyUnit.keysetAt, unset, KeyUnit.set_get]
  case deferred =>
    intro s l f k hf h
    rw [offerKeyset_stacked hf, if_pos (h.imp_right s.keys.anyMoving_iff.2)]

end Sys2Proof.KeyLayers
end

section
/-! PROOF. The family of the sources and crosspoints: what the two passes that validate the source map make of each entry, and the
statement that rests on it. -/

namespace Sys2Proof.Machine

/-! ## Inputs and sources by number -/

theorem inputOfNat_eq_some_iff {n : Nat} {k : InputNo} : inputOfNat n = some k ↔ k.val = n := by
  rw [inputOfNat, Option.dite_none_right_eq_some]
  exact ⟨fun ⟨_, h⟩ => (Fin.ext_iff.1 (Option.some.inj h)).symm, fun h => ⟨h ▸ k.isLt, congrArg some (Fin.ext h.symm)⟩⟩

theorem inputOfNat_eq_none_iff {n : Nat} : inputOfNat n = none ↔ 11 < n := by
  simp only [inputOfNat, dite_eq_right_iff, reduceCtorEq, imp_false]
  omega

theorem sourceOfNat_eq_some_iff {n : Nat} {b : Source} : sourceOfNat n = some b ↔ b.val = n := by
  rw [sourceOfNat, Option.dite_none_right_eq_some]
  exact ⟨fun ⟨_, h⟩ => (Fin.ext_iff.1 (Option.some.inj h)).symm, fun h => ⟨h ▸ b.isLt, congrArg some (Fin.ext h.symm)⟩⟩

/-! ## The first pass (R84) -/

/-- What the first pass makes of one entry when the inputs of `used` are taken. -/
def settleEntry (used : List Nat) (e : RawMapEntry) : Option (InputNo × RawMapEntry) :=
  if e.input ∈ used then none else (inputOfNat e.input).map fun input => (input, e)

/-- The inputs taken once an entry has been examined. -/
def takeInput (used : List Nat) (e : RawMapEntry) : List Nat :=
  if e.input ∈ used ∨ 11 < e.input then used else e.input :: used

theorem settleInputs_cons (used : List Nat) (e : RawMapEntry) (rest : List RawMapEntry) :
    settleInputs used (e :: rest) = settleEntry used e :: settleInputs (takeInput used e) rest := by
  cases h : inputOfNat e.input with
  | none =>
    have outside := inputOfNat_eq_none_iff.1 h
    simp [settleInputs, settleEntry, takeInput, h, outside]
  | some k =>
    have inside : ¬ 11 < e.input := by rw [← inputOfNat_eq_none_iff, h]; exact Option.some_ne_none k
    by_cases taken : e.input ∈ used <;> simp [settleInputs, settleEntry, takeInput, h, inside, taken]

/-- The first pass judges each entry by the inputs that the entries before it have taken. -/
theorem settleInputs_getElem? (used : List Nat) (raw : List RawMapEntry) (i : Nat) :
    (settleInputs used raw)[i]? = raw[i]?.map (settleEntry ((raw.take i).foldl takeInput used)) := by
  induction raw generalizing used i with
  | nil => rfl
  | cons e rest ih =>
    rw [settleInputs_cons]
    cases i with
    | zero => rfl
    | succ i => simpa using ih (takeInput used e) i

@[simp] theorem settleInputs_length (used : List Nat) (raw : List RawMapEntry) :
    (settleInputs used raw).length = raw.length := by
  induction raw generalizing used with
  | nil => rfl
  | cons e rest ih => rw [settleInputs_cons, List.length_cons, ih, List.length_cons]

theorem mem_takeInput {used : List Nat} {e : RawMapEntry} {n : Nat} (hn : n ≤ 11) :
    n ∈ takeInput used e ↔ n ∈ used ∨ e.input = n := by
  unfold takeInput
  split
  case isTrue h =>
    have named : e.input = n → n ∈ used := by
      rintro rfl
      exact h.resolve_right (Nat.not_lt.2 hn)
    exact ⟨.inl, fun hm => hm.elim id named⟩
  case isFalse => rw [List.mem_cons, or_comm, eq_comm]

/-- Of the inputs 0..11, those taken are those that some entry examined names, whether it kept the input or not. -/
theorem mem_foldl_takeInput {used : List Nat} {examined : List RawMapEntry} {n : Nat} (hn : n ≤ 11) :
    n ∈ examined.foldl takeInput used ↔ n ∈ used ∨ ∃ e ∈ examined, e.input = n := by
  induction examined generalizing used with
  | nil => simp
  | cons e rest ih => simp [ih, mem_takeInput hn, or_assoc]

theorem settleEntry_eq_none_iff {used : List Nat} {e : RawMapEntry} :
    settleEntry used e = none ↔ 11 < e.input ∨ e.input ∈ used := by
  by_cases taken : e.input ∈ used <;> simp [settleEntry, taken, inputOfNat_eq_none_iff]

theorem settleEntry_eq_some {used : List Nat} {e r : RawMapEntry} {k : InputNo} (h : settleEntry used e = some (k, r)) :
    k.val = e.input ∧ r = e := by
  unfold settleEntry at h
  split at h
  · cases h
  · obtain ⟨x, hx, hxr⟩ := Option.map_eq_some_iff.1 h
    obtain ⟨rfl, rfl⟩ := Prod.mk.inj hxr
    exact ⟨inputOfNat_eq_some_iff.1 hx, rfl⟩

theorem settleInputs_unmapped_iff {raw : List RawMapEntry} {i : Nat} (hi : i < raw.length) :
    (settleInputs [] raw)[i]? = some none ↔ 11 < raw[i].input ∨ ∃ (j : Nat) (hj : j < i), raw[j].input = raw[i].input := by
  rw [settleInputs_getElem?, List.getElem?_eq_getElem hi, Option.map_some, Option.some_inj, settleEntry_eq_none_iff]
  refine or_congr_right' fun inside => ?_
  rw [mem_foldl_takeInput (Nat.not_lt.1 inside)]
  constructor
  · rintro (h | ⟨e, he, heq⟩)
    · cases h
    · obtain ⟨j, hj, rfl⟩ := List.mem_take_iff_getElem.1 he
      exact ⟨j, (lt_min_iff.1 hj).1, heq⟩
  · rintro ⟨j, hj, heq⟩
    exact .inr ⟨raw[j], List.mem_take_iff_getElem.2 ⟨j, lt_min hj (hj.trans hi), rfl⟩, heq⟩

theorem settleInputs_mapped {raw : List RawMapEntry} {i : Nat} (hi : i < raw.length) {k : InputNo} {r : RawMapEntry}
    (h : (settleInputs [] raw)[i]? = some (some (k, r))) : k.val = raw[i].input ∧ r = raw[i] := by
  rw [settleInputs_getElem?, List.getElem?_eq_getElem hi, Option.map_some, Option.some_inj] at h
  exact settleEntry_eq_some h

/-! ## The second pass (R85) -/

/-- What the second pass makes of the entry of source `own` that the first pass left on an input. -/
def settleBackup (settled : List (Option (InputNo × RawMapEntry))) (programme : Source) (own : Nat)
    (x : InputNo × RawMapEntry) : MapEntry :=
  { input := x.1, failover := x.2.failover,
    backup := if keepsBackup settled programme.val own x.2.backup then sourceOfNat x.2.backup else none }

theorem validateMap_getElem? (programme : Source) (raw : List RawMapEntry) (i : Nat) :
    (validateMap programme raw)[i]? =
      (settleInputs [] raw)[i]?.map (Option.map (settleBackup (settleInputs [] raw) programme (i + 2))) := by
  rw [validateMap, List.getElem?_map, List.getElem?_zipIdx, Option.map_map, Nat.zero_add]
  cases (settleInputs [] raw)[i]? <;> rfl

@[simp] theorem validateMap_length (programme : Source) (raw : List RawMapEntry) :
    (validateMap programme raw).length = raw.length := by
  simp [validateMap]

/-- The second pass unmaps no entry. -/
theorem validateMap_unmapped_iff {programme : Source} {raw : List RawMapEntry} {i : Nat} :
    (validateMap programme raw)[i]? = some none ↔ (settleInputs [] raw)[i]? = some none := by
  simp [validateMap_getElem?]

theorem validateMap_mapped_iff {programme : Source} {raw : List RawMapEntry} {i : Nat} {e : MapEntry} :
    (validateMap programme raw)[i]? = some (some e) ↔
      ∃ x, (settleInputs [] raw)[i]? = some (some x) ∧ settleBackup (settleInputs [] raw) programme (i + 2) x = e := by
  simp [validateMap_getElem?]

/-- Both passes agree on which entries are mapped. -/
theorem validateMap_isMapped_iff {programme : Source} {raw : List RawMapEntry} {i : Nat} :
    (∃ e, (validateMap programme raw)[i]? = some (some e)) ↔ ∃ x, (settleInputs [] raw)[i]? = some (some x) := by
  simp only [validateMap_mapped_iff]
  exact ⟨fun ⟨_, x, hx, _⟩ => ⟨x, hx⟩, fun ⟨x, hx⟩ => ⟨_, x, hx, rfl⟩⟩

theorem isSome_getD_none_iff {α : Type} {l : List (Option α)} {i : Nat} :
    (l.getD i none).isSome = true ↔ ∃ x, l[i]? = some (some x) := by
  rw [List.getD_eq_getElem?_getD]
  cases h : l[i]? with
  | none => simp
  | some o => simp [Option.isSome_iff_exists]

theorem keepsBackup_iff {settled : List (Option (InputNo × RawMapEntry))} {programme b : Source} {own : Nat} :
    keepsBackup settled programme.val own b.val = true ↔
      b ≠ programme ∧ b.val ≠ own ∧ (b.val < 2 ∨ ∃ x, settled[b.val - 2]? = some (some x)) := by
  rw [← isSome_getD_none_iff, Ne, Fin.ext_iff]
  simp only [keepsBackup, Bool.and_eq_true, Bool.or_eq_true, decide_eq_true_eq, bne_iff_ne, b.isLt, true_and, and_assoc]

theorem settleBackup_backup_iff {settled : List (Option (InputNo × RawMapEntry))} {programme b : Source} {own : Nat}
    {x : InputNo × RawMapEntry} :
    (settleBackup settled programme own x).backup = some b ↔
      b.val = x.2.backup ∧ b ≠ programme ∧ b.val ≠ own ∧ (b.val < 2 ∨ ∃ y, settled[b.val - 2]? = some (some y)) := by
  rw [settleBackup, Option.ite_none_right_eq_some, sourceOfNat_eq_some_iff, and_comm]
  refine and_congr_right fun hb => ?_
  rw [← hb, keepsBackup_iff]

end Sys2Proof.Machine

/-! ## The statement -/

namespace Sys2Proof.SourcesAndCrosspoints

open Sys2Proof Sys2Proof.Machine

/-- Settles O7: the first pass says which entries are mapped and on which input, the second judges each backup by the first. -/
theorem mapValidationSettlesEntries : Obligations.MapValidationSettlesEntries := by
  intro programme raw _ m
  refine ⟨validateMap_length programme raw, fun i hi => ?unmapped, fun i hi e he => ?mapped⟩
  case unmapped => exact validateMap_unmapped_iff.trans (settleInputs_unmapped_iff hi)
  case mapped =>
    obtain ⟨⟨k, r⟩, hx, rfl⟩ := validateMap_mapped_iff.1 he
    obtain ⟨hk, rfl⟩ := settleInputs_mapped hi hx
    refine ⟨hk, rfl, fun b => ?_⟩
    rw [settleBackup_backup_iff, validateMap_isMapped_iff]

end Sys2Proof.SourcesAndCrosspoints
end

section
/-! PROOF. The family of the input condition and failover: what the leak and the verdict make of one input's record, what a switch point
makes of the Monitor, and the statement that rests on it. -/

namespace Sys2Proof.Machine

/-! ## One input (R104 to R107) -/

theorem InputRecord.bad_iff (r : InputRecord) :
    r.bad = true ↔ r.substitutionSeen = true ∨ r.checkFailureSeen = true ∨ r.absenceSeen = true := by
  simp [InputRecord.bad, or_assoc]

/-- A leak changes the divider and the count alone. -/
theorem InputRecord.leak_eq (r : InputRecord) :
    r.leak =
      { r with
        divider := if r.leakDivider + 1 ≤ r.divider then 0 else r.divider,
        count := if r.leakDivider + 1 ≤ r.divider then r.count - 1 else r.count } := by
  unfold InputRecord.leak
  split <;> rfl

theorem countAfterVerdict_le {bad : Bool} {c : Nat} (h : c ≤ 255) : countAfterVerdict bad c ≤ 255 := by
  unfold countAfterVerdict
  split
  · exact min_le_left _ _
  · exact h

theorem healthAfter_failed (threshold : Nat) (eligible : Bool) (c : Nat) : healthAfter threshold eligible .failed c = .failed :=
  if_pos rfl

section
variable {before : Health} (hf : before ≠ .failed)
include hf

theorem healthAfter_zero (threshold : Nat) (eligible : Bool) : healthAfter threshold eligible before 0 = .clean := by
  simp [healthAfter, hf]

theorem healthAfter_below {threshold c : Nat} (eligible : Bool) (h1 : 1 ≤ c) (ht : c < threshold) :
    healthAfter threshold eligible before c = .suspect := by
  have hc : c ≠ 0 := by omega
  simp [healthAfter, hf, hc, ht]

theorem healthAfter_reached {threshold c : Nat} (eligible : Bool) (h1 : 1 ≤ threshold) (ht : threshold ≤ c) :
    healthAfter threshold eligible before c = if eligible then .failed else .faulty := by
  have hc : c ≠ 0 := by omega
  simp [healthAfter, hf, hc, Nat.not_lt.2 ht]

end

/-- The count after a leak and a verdict, the leak taken first (R106). -/
theorem InputRecord.judge_leak_count (r : InputRecord) (threshold : Nat) (eligible : Bool) :
    (r.leak.judge threshold eligible).count =
      countAfterVerdict r.bad (if r.leakDivider + 1 ≤ r.divider then r.count - 1 else r.count) := by
  rw [leak_eq]
  rfl

/-- A verdict leaves the divider as the leak left it. -/
theorem InputRecord.judge_leak_divider (r : InputRecord) (threshold : Nat) (eligible : Bool) :
    (r.leak.judge threshold eligible).divider = if r.leakDivider + 1 ≤ r.divider then 0 else r.divider := by
  rw [leak_eq]
  rfl

/-- The health state follows the new count (R107). -/
theorem InputRecord.judge_leak_health (r : InputRecord) (threshold : Nat) (eligible : Bool) :
    (r.leak.judge threshold eligible).health =
      healthAfter threshold eligible r.health (r.leak.judge threshold eligible).count := by
  rw [leak_eq]
  rfl

theorem InputRecord.judge_leak_buffer (r : InputRecord) (threshold : Nat) (eligible : Bool) :
    (r.leak.judge threshold eligible).buffer = r.buffer := by
  rw [leak_eq]
  rfl

/-! ## The Monitor's update (R105) -/

/-- The primary tick comes at an advance (R105). -/
def Monitor.ticks (m : Monitor) : Bool := decide (1 ≤ m.period ∧ m.period ≤ m.primary + 1)

/-- An input's record once its divider has counted a tick, where one comes (R105). -/
def InputRecord.countTick (ticks : Bool) (r : InputRecord) : InputRecord :=
  { r with divider := if ticks then r.divider + 1 else r.divider }

/-- The Monitor once its primary leak counter has advanced and taken the tick that may come of it (R105). -/
theorem Monitor.tick_advancePrimary (m : Monitor) :
    m.advancePrimary.tick =
      { m with
        primary := if m.period = 0 ∨ m.ticks then 0 else m.primary + 1,
        inputs := m.inputs.map (InputRecord.countTick m.ticks) } := by
  by_cases hz : m.period = 0
  · have still : m.ticks = false := by simp [ticks, hz]
    have same : InputRecord.countTick false = id := rfl
    simp [tick, advancePrimary, hz, still, same]
  · by_cases hr : m.period ≤ m.primary + 1
    · have comes : m.ticks = true := by simp [ticks, hr, Nat.one_le_iff_ne_zero.2 hz]
      simp [tick, advancePrimary, hz, hr, comes, Nat.pos_of_ne_zero hz, InputRecord.countTick]
    · have still : m.ticks = false := by simp [ticks, hr]
      have same : InputRecord.countTick false = id := rfl
      simp [tick, advancePrimary, hz, hr, still, same]

theorem Monitor.update_primary (m : Monitor) (c : Crosspoint) :
    (m.update c).primary = if m.period = 0 ∨ m.ticks then 0 else m.primary + 1 := by
  rw [update, tick_advancePrimary]

theorem Monitor.update_get (m : Monitor) (c : Crosspoint) {i : InputNo} (hi : i.val < m.inputs.length) :
    (m.update c).get i = ((m.get i).countTick m.ticks).leak.judge m.threshold (c.eligible i) := by
  have hn : inputOfNat i.val = some i := inputOfNat_eq_some_iff.2 rfl
  simp [update, tick_advancePrimary, Monitor.get, hi, hn]

/-- With the divider in its range, the leak is due where a tick comes and finds the divider at D (R105). -/
theorem InputRecord.countTick_due_iff {r : InputRecord} (ticks : Bool) (hd : r.divider ≤ r.leakDivider) :
    (r.countTick ticks).leakDivider + 1 ≤ (r.countTick ticks).divider ↔ ticks = true ∧ r.divider = r.leakDivider := by
  cases ticks <;> simp [countTick] <;> omega

/-- What an update makes of the divider and the count of an input whose divider is in its range (R105, R106). -/
theorem Monitor.update_get_counts {m : Monitor} (c : Crosspoint) {i : InputNo} (hi : i.val < m.inputs.length)
    (hd : (m.get i).divider ≤ (m.get i).leakDivider) :
    let due : Prop := m.ticks = true ∧ (m.get i).divider = (m.get i).leakDivider
    ((m.update c).get i).divider =
        (if due then 0 else if m.ticks then (m.get i).divider + 1 else (m.get i).divider) ∧
      ((m.update c).get i).count =
        countAfterVerdict (m.get i).bad (if due then (m.get i).count - 1 else (m.get i).count) := by
  intro due
  rw [update_get m c hi, InputRecord.judge_leak_divider, InputRecord.judge_leak_count]
  simp only [InputRecord.countTick_due_iff m.ticks hd]
  exact ⟨rfl, rfl⟩

/-- Past its first switch point out of LOADING a station's Monitor updates at every one (R104, R111). -/
theorem advanceMonitor_gathering {s : State} (hl : s.loader.state ≠ .loading) (hg : s.monitor.gathering = true) :
    (advanceMonitor s).monitor = s.monitor.update s.crosspoint := by
  simp [advanceMonitor, hl, hg]

/-! ## What the rest of a switch point leaves of the Monitor -/

/-- Two Monitors with one primary leak counter and, but for their health states, the same input records. -/
def Monitor.SameButHealth (m n : Monitor) : Prop :=
  n.primary = m.primary ∧ ∀ i, n.get i = { m.get i with health := (n.get i).health }

namespace Monitor.SameButHealth

theorem refl (m : Monitor) : m.SameButHealth m := ⟨rfl, fun _ => rfl⟩

theorem of_eq {m n : Monitor} (h : n = m) : m.SameButHealth n := h ▸ refl m

theorem trans {m n k : Monitor} (h : m.SameButHealth n) (h' : n.SameButHealth k) : m.SameButHealth k := by
  refine ⟨h'.1.trans h.1, fun i => ?_⟩
  rw [h'.2 i, h.2 i]

variable {m n : Monitor} (h : m.SameButHealth n)
include h

theorem primary : n.primary = m.primary := h.1

theorem count (i : InputNo) : (n.get i).count = (m.get i).count := by rw [h.2 i]

theorem divider (i : InputNo) : (n.get i).divider = (m.get i).divider := by rw [h.2 i]

end Monitor.SameButHealth

/-- The change of one input's record changes that record, if the input is there, and no other. -/
theorem Monitor.get_modify_or (m : Monitor) (i j : InputNo) (f : InputRecord → InputRecord) :
    (m.modify i f).get j = f (m.get j) ∨ (m.modify i f).get j = m.get j := by
  by_cases hj : j = i
  · subst hj
    by_cases hi : j.val < m.inputs.length
    · exact .inl (by simp [Monitor.get, modify, hi])
    · exact .inr (by simp [Monitor.get, modify, hi])
  · have hn : i.val ≠ j.val := fun h => hj (Fin.ext h.symm)
    exact .inr (by simp [Monitor.get, modify, hn])

/-- RESTORE changes a health state alone (R109). -/
theorem offerRestore_sameButHealth {i : InputNo} {s t : State} (h : offerRestore i s = .applied t) :
    s.monitor.SameButHealth t.monitor := by
  simp only [offerRestore] at h
  split at h
  · cases h
    exact .refl _
  · split at h
    · cases h
      refine ⟨rfl, fun j => ?_⟩
      rw [State.setMonitor_monitor]
      rcases s.monitor.get_modify_or i j (fun r => { r with health := if r.count = 0 then .clean else .suspect }) with hj | hj <;>
        rw [hj]
    · cases h

/-- Of the entries that are offered RESTORE alone reaches the Monitor. -/
theorem offer_applied_sameButHealth {e : Entry} {s t : State} (h : offer e s = .applied t) :
    s.monitor.SameButHealth t.monitor := by
  unfold offer at h
  split at h
  case h_9 => exact offerRestore_sameButHealth h
  all_goals
    simp only [offerSelect, offerTakeCut, offerTakeAuto, offerLever, offerTranset, offerNextsel, offerKeytake, offerKeyset] at h
    refine .of_eq ?_
    (repeat' split at h) <;> cases h <;> simp

theorem settleAnswer_sameButHealth (e : Entry) (deferred : List Entry) (s : State) :
    s.monitor.SameButHealth (settleAnswer e deferred s (offer e s)).1.monitor := by
  cases h : offer e s with
  | applied t => exact offer_applied_sameButHealth h
  | deferred => exact .refl _
  | refused reason detail => exact .of_eq (by simp [settleAnswer])

theorem offerAll_sameButHealth (c : Nat) (es : List Entry) : ∀ (j : Nat) (d : List Entry) (s : State),
    s.monitor.SameButHealth (offerAll c j es d s).1.monitor := by
  induction es with
  | nil => exact fun _ _ s => .refl s.monitor
  | cons e rest ih =>
    intro j d s
    have expired : (expireUpTo c j s).monitor = s.monitor := by simp
    exact (Monitor.SameButHealth.of_eq expired).trans ((settleAnswer_sameButHealth e d _).trans (ih _ _ _))

theorem runField_sameButHealth (c : Nat) (s : State) : s.monitor.SameButHealth (runField c s).monitor := by
  have broken : (breakCycle (expireUpTo c 0 s)).monitor = s.monitor := by simp
  exact (Monitor.SameButHealth.of_eq broken).trans (offerAll_sameButHealth c _ 1 [] _)

/-- The work of a switch point out of LOADING changes no more of the Monitor, once it has advanced, than health states. -/
theorem workField_sameButHealth (c : Nat) {s : State} (hl : s.loader.state ≠ .loading) :
    (advanceAll s).monitor.SameButHealth (workField c s).monitor := by
  unfold workField
  split
  case h_1 h => exact absurd h hl
  case h_2 => simpa using runField_sameButHealth c (advanceAll s)
  case h_3 => exact .of_eq (by simp)
  case h_4 => exact .of_eq (by simp)

/-- The advances hold an update of the Monitor. Of the resolver it reads the eligibility alone, which only the health states follow. -/
theorem advanceAll_monitor_gathering {s : State} (hl : s.loader.state ≠ .loading) (hg : s.monitor.gathering = true) :
    ∃ c, (advanceAll s).monitor = s.monitor.update c := by
  refine ⟨(advanceKeys (advanceEngine (s.setPeers s.peers.grow))).crosspoint, ?_⟩
  rw [advanceAll, advanceMonitor_gathering (by simpa using hl) (by simpa using hg)]
  simp

theorem takeSwitchPoint_monitor_gathering {s : State} (hl : s.loader.state ≠ .loading) (hg : s.monitor.gathering = true) :
    ∃ c, (s.monitor.update c).SameButHealth (takeSwitchPoint s).monitor := by
  have loader : (openField s).loader = s.loader := by simp
  have monitor : (openField s).monitor = s.monitor := by simp
  obtain ⟨c, hc⟩ := advanceAll_monitor_gathering (s := openField s) (by rwa [loader]) (by rwa [monitor])
  refine ⟨c, ?_⟩
  rw [takeSwitchPoint, if_neg (by rwa [loader]), ← monitor, ← hc]
  exact workField_sameButHealth _ (by rwa [loader])

/-! ## The counters run on to a switch line (R122; log entry 5) -/

theorem wrapLine_add_linesAhead {f : Format} {a b : Nat} (ha : 1 ≤ a) (ha' : a ≤ frameLines f) (hb : 1 ≤ b)
    (hb' : b ≤ frameLines f) : wrapLine f (a + linesAhead f a b) = b := by
  unfold wrapLine linesAhead
  by_cases h : a ≤ b
  · have hm : (b + frameLines f - a) % frameLines f = b - a := by
      rw [show b + frameLines f - a = b - a + frameLines f by omega, Nat.add_mod_right, Nat.mod_eq_of_lt (by omega)]
    rw [hm]
    split <;> omega
  · rw [Nat.mod_eq_of_lt (by omega)]
    split <;> omega

/-- The least of a bound and of how far ahead some lines lie is the bound or one of those distances. -/
theorem foldl_min_linesAhead_eq (f : Format) (a best : Nat) (ls : List Nat) :
    ls.foldl (fun best l => min best (linesAhead f a l)) best = best ∨
      ∃ l ∈ ls, ls.foldl (fun best l => min best (linesAhead f a l)) best = linesAhead f a l := by
  induction ls generalizing best with
  | nil => exact .inl rfl
  | cons x rest ih =>
    rw [List.foldl_cons]
    rcases ih (min best (linesAhead f a x)) with h | ⟨l, hl, h⟩
    · rw [h]
      exact (min_choice _ _).imp_right fun hm => ⟨x, List.mem_cons_self .., hm⟩
    · exact .inr ⟨l, List.mem_cons_of_mem _ hl, h⟩

/-- The nearest of some lines lies as far ahead as one of them, or a whole frame ahead. -/
theorem nearestAhead_eq (f : Format) (a : Nat) (ls : List Nat) :
    nearestAhead f a ls = frameLines f ∨ ∃ l ∈ ls, nearestAhead f a ls = linesAhead f a l :=
  foldl_min_linesAhead_eq f a (frameLines f) ls

/-- The switch lines are lines of the frame, and come before the first active line of their field. -/
theorem mem_switchLines_bounds {f : Format} {sw l : Nat} (h1 : 1 ≤ sw) (h20 : sw ≤ 20) (hl : l ∈ switchLines f sw) :
    1 ≤ l ∧ l ≤ frameLines f ∧ isActiveLine f l = false := by
  unfold switchLines at hl
  split at hl
  case isTrue hf =>
    have hl : l = sw ∨ l = 563 + sw := by simpa using hl
    have lines : frameLines f = 1125 := by
      revert hf
      cases f <;> decide
    simp only [isActiveLine, hf, lines, if_true, Bool.or_eq_false_iff, decide_eq_false_iff_not]
    omega
  case isFalse hf =>
    have hl : l = sw := by simpa using hl
    have lines : 750 ≤ frameLines f := by cases f <;> decide
    simp only [isActiveLine, hf, Bool.false_eq_true, if_false, decide_eq_false_iff_not]
    omega

/-- The counters run on to one of the lines, or stay on their own. -/
theorem Raster.runTo_line {r : Raster} {ls : List Nat} (h1 : 1 ≤ r.line) (hr : r.line ≤ frameLines r.format)
    (hls : ∀ l ∈ ls, 1 ≤ l ∧ l ≤ frameLines r.format) : (r.runTo ls).line = r.line ∨ (r.runTo ls).line ∈ ls := by
  unfold Raster.runTo
  split
  case h_1 => exact .inl rfl
  case h_2 k hk =>
    change wrapLine r.format (r.line + k.succ) = _ ∨ wrapLine r.format (r.line + k.succ) ∈ _
    rw [← hk]
    rcases nearestAhead_eq r.format r.line ls with h | ⟨l, hl, h⟩
    · left
      rw [h, wrapLine, if_pos (by omega), Nat.add_sub_cancel]
    · right
      obtain ⟨hl1, hl2⟩ := hls l hl
      rwa [h, wrapLine_add_linesAhead h1 hr hl1 hl2]

theorem Raster.runTo_format (r : Raster) (ls : List Nat) : (r.runTo ls).format = r.format := by
  unfold Raster.runTo
  split <;> rfl

/-- The start of a line outside the active picture reads no buffer. -/
theorem beginLine_monitor_of_not_active {s : State} (h : isActiveLine s.raster.format s.raster.line = false) :
    (beginLine s).monitor = s.monitor := by
  simp [beginLine, h]

/-- No switch line is an active line, so a run to one leaves the Monitor as it stands. -/
theorem moveCounters_switchLine_monitor {s : State} (h : Safety.CountersSound s) :
    (moveCounters (s.raster.runTo s.raster.switchLines) s).monitor = s.monitor := by
  obtain ⟨⟨hl1, hl2⟩, -, ⟨hs1, hs2⟩, -⟩ := h
  have lines {l : Nat} (hl : l ∈ s.raster.switchLines) := mem_switchLines_bounds hs1 hs2 hl
  unfold moveCounters
  split
  case isTrue => rfl
  case isFalse moved =>
    have landed := (Raster.runTo_line hl1 hl2 fun l hl => ⟨(lines hl).1, (lines hl).2.1⟩).resolve_left moved
    refine beginLine_monitor_of_not_active ?_
    rw [State.setRaster_raster, Raster.runTo_format]
    exact (lines landed).2.2

/-- What SWITCH_POINT makes of the Monitor of a station that gathers: its update, and after it changes of health states alone. -/
theorem execSwitchPoint_monitor_gathering {s : State} (hr : Safety.Released s) (hc : Safety.CountersSound s)
    (hl : s.loader.state ≠ .loading) (hf : s.raster.deadlineFlag = true) (hg : s.monitor.gathering = true) :
    ∃ t c, exec .switchPoint s = .next t ∧ (s.monitor.update c).SameButHealth t.monitor := by
  let u := moveCounters (s.raster.runTo s.raster.switchLines) s
  have loader : u.loader = s.loader := by simp [u]
  have monitor : u.monitor = s.monitor := moveCounters_switchLine_monitor hc
  obtain ⟨c, h⟩ := takeSwitchPoint_monitor_gathering (s := u) (by rwa [loader]) (by rwa [monitor])
  refine ⟨takeSwitchPoint u, c, ?_, monitor ▸ h⟩
  have runs : exec .switchPoint s = execSwitchPoint s := rfl
  rw [runs, execSwitchPoint, whenCounting_released _ s hr (s.loader.unreadable_of_state hl), if_pos hf]

end Sys2Proof.Machine

/-! ## The statement -/

namespace Sys2Proof.InputCondition

open Sys2Proof Sys2Proof.Machine

/-- Settles O22: one record by the equations of the leak and the verdict, a switch point by the update of the Monitor. -/
theorem verdictMovesCountAndHealth : Obligations.VerdictMovesCountAndHealth := by
  refine ⟨?record, ?switch⟩
  case record =>
    intro r threshold eligible hT hr c1 c2 t
    have count : t.count = c2 := by
      simp only [t, c2, c1, r.judge_leak_count, countAfterVerdict, r.bad_iff]
    have health : t.health = healthAfter threshold eligible r.health c2 := by
      rw [← count]
      exact r.judge_leak_health threshold eligible
    have bounded : t.count ≤ 255 := by
      rw [r.judge_leak_count]
      exact countAfterVerdict_le (by split <;> omega)
    refine ⟨count, bounded, ⟨rfl, rfl, rfl⟩, r.judge_leak_buffer threshold eligible, fun hf => ?_, fun hf h0 => ?_,
      fun hf h1 hlt => ?_, fun hf hge => ?_⟩
    · rw [health, hf, healthAfter_failed]
    · rw [health, h0, healthAfter_zero hf]
    · rw [health, healthAfter_below hf eligible h1 hlt]
    · rw [health, healthAfter_reached hf eligible hT hge]
  case switch =>
    intro s i hrel hc hl hf hg hlen hd r tick due c1
    obtain ⟨t, c, ht, same⟩ := execSwitchPoint_monitor_gathering hrel hc hl hf hg
    have hi : i.val < s.monitor.inputs.length := by omega
    obtain ⟨divider, count⟩ := Monitor.update_get_counts c hi hd
    have due_iff : due = true ↔ s.monitor.ticks = true ∧ r.divider = r.leakDivider := decide_eq_true_iff
    refine ⟨t, ht, ?_, ?_, ?_⟩
    · rw [same.count, count]
      simp only [countAfterVerdict, InputRecord.bad_iff, c1, due_iff, r]
    · rw [same.divider, divider]
      simp only [due_iff, r]
      rfl
    · rw [same.primary, Monitor.update_primary]
      rfl

end Sys2Proof.InputCondition
end

section
/-! PROOF. The family of the Cue Line: what a presence mask lays out, what the codes of a payload name, and the statement that rests on
it. -/

namespace Sys2Proof.Machine

open Sys2Proof.Safety (fieldOffset fieldValue)

/-! ## The fields a presence mask names (R145) -/

theorem fieldOffset_succ (sizes : List Nat) (mask i : Nat) :
    fieldOffset sizes mask (i + 1) = fieldOffset sizes mask i + if mask.testBit i then sizes.getD i 0 else 0 := by
  simp [fieldOffset, List.range_succ]

theorem fieldOffset_mono (sizes : List Nat) (mask : Nat) : Monotone (fieldOffset sizes mask) :=
  monotone_nat_of_le_succ fun i => by rw [fieldOffset_succ]; exact Nat.le_add_right ..

/-- The length a mask asks of a payload is where a field after the last one would begin. -/
theorem maskedLength_eq_fieldOffset (mask : Nat) (sizes : List Nat) :
    maskedLength mask sizes = fieldOffset sizes mask sizes.length := by
  rw [maskedLength, fieldOffset]
  congr 1
  refine List.ext_getElem (by simp) fun i h _ => ?_
  have hi : i < sizes.length := by simpa using h
  simp [hi]

/-- In a body of the length its mask asks, a field of one byte is read at its place, and what is left begins at the next one's. -/
theorem field8_drop {sizes : List Nat} {mask n i : Nat} {body : List Byte} (hlen : body.length = fieldOffset sizes mask n)
    (hi : i < n) (hsize : sizes.getD i 0 = 1) :
    field8 (mask.testBit i) (body.drop (fieldOffset sizes mask i)) =
      (fieldValue sizes mask body i, body.drop (fieldOffset sizes mask (i + 1))) := by
  have room : fieldOffset sizes mask (i + 1) ≤ body.length := hlen ▸ fieldOffset_mono sizes mask hi
  rw [fieldOffset_succ, hsize] at room
  rw [fieldOffset_succ, fieldValue, hsize]
  cases present : mask.testBit i with
  | false => simp [field8]
  | true =>
    have h0 : fieldOffset sizes mask i < body.length := by simpa [present] using room
    rw [List.drop_eq_getElem_cons h0]
    simp [field8, h0]

/-- A field of two bytes likewise, most significant byte first. -/
theorem field16_drop {sizes : List Nat} {mask n i : Nat} {body : List Byte} (hlen : body.length = fieldOffset sizes mask n)
    (hi : i < n) (hsize : sizes.getD i 0 = 2) :
    field16 (mask.testBit i) (body.drop (fieldOffset sizes mask i)) =
      (fieldValue sizes mask body i, body.drop (fieldOffset sizes mask (i + 1))) := by
  have room : fieldOffset sizes mask (i + 1) ≤ body.length := hlen ▸ fieldOffset_mono sizes mask hi
  rw [fieldOffset_succ, hsize] at room
  rw [fieldOffset_succ, fieldValue, hsize]
  cases present : mask.testBit i with
  | false => simp [field16]
  | true =>
    have h1 : fieldOffset sizes mask i + 1 < body.length := by rw [present, if_pos rfl] at room; omega
    have h0 : fieldOffset sizes mask i < body.length := by omega
    rw [List.drop_eq_getElem_cons h0, List.drop_eq_getElem_cons h1]
    simp [field16, word16, h0, h1]

/-- The eleven fields of a TRANSET, each at its own place. -/
def transetValues (mask : Nat) (body : List Byte) : RawTranset :=
  let v := fieldValue transetSizes mask body
  { type := v 0, rate := v 1, pattern := v 2, mode := v 3, cx := v 4, cy := v 5, softness := v 6, borderWidth := v 7,
    borderY := v 8, borderCb := v 9, borderCr := v 10 }

theorem readTranset_eq_transetValues {mask : Nat} {body : List Byte} (h : body.length = fieldOffset transetSizes mask 11) :
    readTranset mask body = transetValues mask body := by
  have start : readTranset mask body = readTranset mask (body.drop (fieldOffset transetSizes mask 0)) := rfl
  rw [start, readTranset]
  simp (disch := decide) only [field8_drop h, field16_drop h]
  rfl

/-- The eleven fields of a KEYSET, each at its own place. -/
def keysetValues (mask : Nat) (body : List Byte) : RawKeyset :=
  let v := fieldValue keysetSizes mask body
  { type := v 0, clip := v 1, gain := v 2, invert := v 3, rate := v 4, maskMode := v 5, left := v 6, top := v 7, width := v 8,
    height := v 9, stackPosition := v 10 }

theorem readKeyset_eq_keysetValues {mask : Nat} {body : List Byte} (h : body.length = fieldOffset keysetSizes mask 11) :
    readKeyset mask body = keysetValues mask body := by
  have start : readKeyset mask body = readKeyset mask (body.drop (fieldOffset keysetSizes mask 0)) := rfl
  rw [start, readKeyset]
  simp (disch := decide) only [field8_drop h, field16_drop h]
  rfl

/-! ## Codes (R142, R145, R151) -/

theorem transTypeOf_eq : ∀ n, transTypeOf n = if n ≤ 1 then some (if n = 0 then .mix else .wipe) else none
  | 0 | 1 => rfl
  | n + 2 => by simp [transTypeOf]

theorem patternOf_eq : ∀ n, patternOf n =
    if n ≤ 3 then some (if n = 0 then .horizontal else if n = 1 then .vertical else if n = 2 then .box else .diamond) else none
  | 0 | 1 | 2 | 3 => rfl
  | n + 4 => by simp [patternOf]

theorem directionModeOf_eq : ∀ n, directionModeOf n =
    if n ≤ 2 then some (if n = 0 then .normal else if n = 1 then .reverse else .alternate) else none
  | 0 | 1 | 2 => rfl
  | n + 3 => by simp [directionModeOf]

theorem keyTypeOf_eq : ∀ n, keyTypeOf n = if n ≤ 1 then some (if n = 0 then .luma else .linear) else none
  | 0 | 1 => rfl
  | n + 2 => by simp [keyTypeOf]

theorem maskModeOf_eq : ∀ n, maskModeOf n =
    if n ≤ 2 then some (if n = 0 then .none else if n = 1 then .inside else .outside) else none
  | 0 | 1 | 2 => rfl
  | n + 3 => by simp [maskModeOf]

theorem takeModeOf_eq : ∀ n, takeModeOf n = if n ≤ 1 then some (if n = 0 then .cut else .auto) else none
  | 0 | 1 => rfl
  | n + 2 => by simp [takeModeOf]

theorem keytakeModeOf_eq : ∀ n, keytakeModeOf n = if n ≤ 1 then some (if n = 0 then .cut else .mix) else none
  | 0 | 1 => rfl
  | n + 2 => by simp [keytakeModeOf]

theorem busOfNat_eq_getElem? : ∀ n,
    busOfNat n = ([.pgm, .pst, .k1f, .k1s, .k2f, .k2s, .k3f, .k3s, .k4f, .k4s] : List Bus)[n]?
  | 0 | 1 | 2 | 3 | 4 | 5 | 6 | 7 | 8 | 9 => rfl
  | n + 10 => by simp [busOfNat]

/-- Layers are numbered from 1: number `n + 1` is place `n` of the list of the layers. -/
theorem layerOfNat_succ : ∀ n, layerOfNat (n + 1) = ([.l1, .l2, .l3, .l4] : List Layer)[n]?
  | 0 | 1 | 2 | 3 => rfl
  | n + 4 => by simp [layerOfNat]

theorem layerOfNat_eq_none_iff : ∀ {n : Nat}, layerOfNat n = none ↔ n = 0 ∨ 4 < n
  | 0 => by simp [layerOfNat]
  | n + 1 => by simp [layerOfNat_succ]

/-- A field stands up to its check when the code it carries, if any, is in range. -/
theorem legalCode_iff {α : Type} {codes : Nat → Option α} {legal : Nat → Prop} (h : ∀ n, codes n = none ↔ ¬ legal n)
    (v : Option Nat) : legalCode codes v = true ↔ ∀ n, v = some n → legal n := by
  cases v with
  | none => simp [legalCode]
  | some n => simp [legalCode, Option.isSome_iff_ne_none, h]

/-- Codes numbered 0 to `top` make a field legal when it is absent or at most `top`. -/
theorem legalCode_iff_le {α : Type} {codes : Nat → Option α} {top : Nat} {f : Nat → α}
    (h : ∀ n, codes n = if n ≤ top then some (f n) else none) (v : Option Nat) :
    legalCode codes v = true ↔ ∀ n, v = some n → n ≤ top :=
  legalCode_iff (fun n => by simp [h]) v

/-- A legal field keeps the meaning of its code. -/
theorem bind_code_eq_map {α : Type} {codes : Nat → Option α} {top : Nat} {f : Nat → α}
    (h : ∀ n, codes n = if n ≤ top then some (f n) else none) {v : Option Nat} (hv : ∀ n, v = some n → n ≤ top) :
    v.bind codes = v.map f := by
  cases v with
  | none => rfl
  | some n => simp [h, hv n rfl]

theorem legalCode_layer_iff (v : Option Nat) : legalCode layerOfNat v = true ↔ ∀ n, v = some n → 1 ≤ n ∧ n ≤ 4 :=
  legalCode_iff (fun n => by rw [layerOfNat_eq_none_iff]; omega) v

/-! ## Clamps (R152) -/

theorem clampRate_eq (n : Nat) : clampRate n = max 1 (min 999 n) := by
  rw [clampRate, clampNat]
  split
  · omega
  · split <;> omega

theorem clampGain_eq (n : Nat) : clampGain n = max 1 n := by
  rw [clampGain]
  split <;> omega

theorem clampCentre_eq (n : Nat) : clampCentre n = min 1023 n := Nat.min_comm ..

theorem clampWidth_eq (n : Nat) : clampWidth n = min 255 n := Nat.min_comm ..

theorem clampClip_eq (n : Nat) : clampClip n = min 876 n := Nat.min_comm ..

theorem clampWindow_eq (n : Nat) : clampWindow n = min 4095 n := Nat.min_comm ..

theorem clampPosition_eq (n : Nat) : clampPosition n = min 1024 n := Nat.min_comm ..

/-! ## TRANSET and KEYSET (R145, R151, R152) -/

/-- The codes of a TRANSET are all in their codings (R151). -/
def RawTranset.Legal (r : RawTranset) : Prop :=
  (∀ n, r.type = some n → n ≤ 1) ∧ (∀ n, r.pattern = some n → n ≤ 3) ∧ ∀ n, r.mode = some n → n ≤ 2

/-- The codes of a KEYSET's fields are all in their codings (R151). -/
def RawKeyset.Legal (r : RawKeyset) : Prop :=
  (∀ n, r.type = some n → n ≤ 1) ∧ (∀ n, r.maskMode = some n → n ≤ 2) ∧ ∀ n, r.stackPosition = some n → 1 ≤ n ∧ n ≤ 4

theorem RawTranset.not_legal {r : RawTranset}
    (h : (∃ n, r.type = some n ∧ 1 < n) ∨ (∃ n, r.pattern = some n ∧ 3 < n) ∨ ∃ n, r.mode = some n ∧ 2 < n) : ¬ r.Legal := by
  rintro ⟨type, pattern, mode⟩
  rcases h with ⟨n, hn, out⟩ | ⟨n, hn, out⟩ | ⟨n, hn, out⟩
  · exact absurd (type n hn) (Nat.not_le.2 out)
  · exact absurd (pattern n hn) (Nat.not_le.2 out)
  · exact absurd (mode n hn) (Nat.not_le.2 out)

theorem RawKeyset.not_legal {r : RawKeyset}
    (h : (∃ n, r.type = some n ∧ 1 < n) ∨ (∃ n, r.maskMode = some n ∧ 2 < n) ∨
      ∃ n, r.stackPosition = some n ∧ (n = 0 ∨ 4 < n)) : ¬ r.Legal := by
  rintro ⟨type, maskMode, stack⟩
  rcases h with ⟨n, hn, out⟩ | ⟨n, hn, out⟩ | ⟨n, hn, out⟩
  · exact absurd (type n hn) (Nat.not_le.2 out)
  · exact absurd (maskMode n hn) (Nat.not_le.2 out)
  · have := stack n hn
    omega

/-- What a TRANSET of legal codes stands for: each code's meaning, every other value clamped. -/
theorem clampTranset_of_legal {r : RawTranset} (legal : r.Legal) : clampTranset r =
    { type := r.type.map fun n => if n = 0 then .mix else .wipe, rate := r.rate.map fun n => max 1 (min 999 n),
      pattern := r.pattern.map fun n => if n = 0 then .horizontal else if n = 1 then .vertical else if n = 2 then .box else .diamond,
      mode := r.mode.map fun n => if n = 0 then .normal else if n = 1 then .reverse else .alternate,
      cx := r.cx.map (min 1023), cy := r.cy.map (min 1023), softness := r.softness.map (min 255),
      borderWidth := r.borderWidth.map (min 255), borderY := r.borderY.map (BitVec.ofNat 10),
      borderCb := r.borderCb.map (BitVec.ofNat 10), borderCr := r.borderCr.map (BitVec.ofNat 10) } := by
  obtain ⟨type, pattern, mode⟩ := legal
  rw [clampTranset, bind_code_eq_map transTypeOf_eq type, bind_code_eq_map patternOf_eq pattern,
    bind_code_eq_map directionModeOf_eq mode, funext clampRate_eq, funext clampCentre_eq, funext clampWidth_eq]
  rfl

/-- What a KEYSET of legal codes stands for, likewise. -/
theorem clampKeyset_of_legal {r : RawKeyset} (legal : r.Legal) : clampKeyset r =
    { type := r.type.map fun n => if n = 0 then .luma else .linear, clip := r.clip.map (min 876), gain := r.gain.map (max 1),
      invert := r.invert.map fun n => decide (n % 2 = 1), rate := r.rate.map fun n => max 1 (min 999 n),
      maskMode := r.maskMode.map fun n => if n = 0 then .none else if n = 1 then .inside else .outside,
      left := r.left.map (min 4095), top := r.top.map (min 4095), width := r.width.map (min 4095),
      height := r.height.map (min 4095), stackPosition := r.stackPosition } := by
  obtain ⟨type, maskMode, -⟩ := legal
  rw [clampKeyset, bind_code_eq_map keyTypeOf_eq type, bind_code_eq_map maskModeOf_eq maskMode, funext clampClip_eq,
    funext clampGain_eq, funext clampRate_eq, funext clampWindow_eq]
  simp only [Nat.testBit_zero]

theorem transetAction_eq_some {m0 m1 : Byte} {body : List Byte} (hlen : body.length = fieldOffset transetSizes (word16 m0 m1) 11)
    (legal : (transetValues (word16 m0 m1) body).Legal) :
    transetAction (m0 :: m1 :: body) = some (.transet (clampTranset (transetValues (word16 m0 m1) body))) := by
  obtain ⟨type, pattern, mode⟩ := legal
  rw [transetAction, readTranset_eq_transetValues hlen]
  exact if_pos ⟨hlen.trans (maskedLength_eq_fieldOffset ..).symm, (legalCode_iff_le transTypeOf_eq _).2 type,
    (legalCode_iff_le patternOf_eq _).2 pattern, (legalCode_iff_le directionModeOf_eq _).2 mode⟩

theorem transetAction_eq_none {m0 m1 : Byte} {body : List Byte}
    (h : body.length = fieldOffset transetSizes (word16 m0 m1) 11 → ¬ (transetValues (word16 m0 m1) body).Legal) :
    transetAction (m0 :: m1 :: body) = none := by
  rw [transetAction]
  refine if_neg fun ⟨len, type, pattern, mode⟩ => ?_
  have hlen := len.trans (maskedLength_eq_fieldOffset ..)
  rw [readTranset_eq_transetValues hlen] at type pattern mode
  exact h hlen ⟨(legalCode_iff_le transTypeOf_eq _).1 type, (legalCode_iff_le patternOf_eq _).1 pattern,
    (legalCode_iff_le directionModeOf_eq _).1 mode⟩

theorem keysetAction_eq_some {b0 m0 m1 : Byte} {body : List Byte} {layer : Layer} (hlayer : layerOfNat b0.toNat = some layer)
    (hlen : body.length = fieldOffset keysetSizes (word16 m0 m1) 11) (legal : (keysetValues (word16 m0 m1) body).Legal) :
    keysetAction (b0 :: m0 :: m1 :: body) = some (.keyset layer (clampKeyset (keysetValues (word16 m0 m1) body))) := by
  obtain ⟨type, mask, stack⟩ := legal
  simp only [keysetAction, hlayer, readKeyset_eq_keysetValues hlen]
  exact if_pos ⟨hlen.trans (maskedLength_eq_fieldOffset ..).symm, (legalCode_iff_le keyTypeOf_eq _).2 type,
    (legalCode_iff_le maskModeOf_eq _).2 mask, (legalCode_layer_iff _).2 stack⟩

theorem keysetAction_no_layer {b0 m0 m1 : Byte} {body : List Byte} (h : layerOfNat b0.toNat = none) :
    keysetAction (b0 :: m0 :: m1 :: body) = none := by
  simp only [keysetAction, h]

theorem keysetAction_eq_none {b0 m0 m1 : Byte} {body : List Byte}
    (h : body.length = fieldOffset keysetSizes (word16 m0 m1) 11 → ¬ (keysetValues (word16 m0 m1) body).Legal) :
    keysetAction (b0 :: m0 :: m1 :: body) = none := by
  cases hlayer : layerOfNat b0.toNat with
  | none => exact keysetAction_no_layer hlayer
  | some layer =>
    simp only [keysetAction, hlayer]
    refine if_neg fun ⟨len, type, mask, stack⟩ => ?_
    have hlen := len.trans (maskedLength_eq_fieldOffset ..)
    rw [readKeyset_eq_keysetValues hlen] at type mask stack
    exact h hlen ⟨(legalCode_iff_le keyTypeOf_eq _).1 type, (legalCode_iff_le maskModeOf_eq _).1 mask,
      (legalCode_layer_iff _).1 stack⟩

/-! ## The commands of one and two bytes (R142, R151) -/

theorem leverAction_eq (b0 b1 : Byte) : leverAction b0 b1 = some (.lever (min 1024 (b0.toNat * 256 + b1.toNat))) := by
  rw [leverAction, clampPosition_eq, word16]

theorem pickAction_eq (b0 b1 : Byte) : pickAction b0 b1 =
    (([.pgm, .pst, .k1f, .k1s, .k2f, .k2s, .k3f, .k3s, .k4f, .k4s] : List Bus)[b0.toNat]?).map
      fun bus => .select bus (Fin.ofNat 64 b1.toNat) := by
  rw [pickAction, busOfNat_eq_getElem?]
  rfl

theorem takeAction_eq (b0 : Byte) :
    takeAction b0 = if b0.toNat ≤ 1 then some (.take (if b0.toNat = 0 then .cut else .auto)) else none := by
  rw [takeAction, takeModeOf_eq]
  split <;> rfl

theorem keytakeAction_eq_none {b0 b1 : Byte} (h : b0.toNat = 0 ∨ 4 < b0.toNat ∨ 1 < b1.toNat) : keytakeAction b0 b1 = none := by
  rw [← or_assoc, ← layerOfNat_eq_none_iff] at h
  rcases h with layer | mode
  · simp [keytakeAction, layer]
  · simp [keytakeAction, keytakeModeOf_eq, Nat.not_le.2 mode]

theorem keytakeAction_eq_some {b0 b1 : Byte} {l : Layer} (hl : layerOfNat b0.toNat = some l) (hm : b1.toNat ≤ 1) :
    keytakeAction b0 b1 = some (.keytake l (if b1.toNat = 0 then .cut else .mix)) := by
  simp [keytakeAction, hl, keytakeModeOf_eq, hm]

theorem restoreAction_eq_some {b0 : Byte} {i : InputNo} (h : b0.toNat = i.val) : restoreAction b0 = some (.restore i) := by
  rw [restoreAction, inputOfNat_eq_some_iff.2 h.symm]
  rfl

theorem restoreAction_eq_none {b0 : Byte} (h : 11 < b0.toNat) : restoreAction b0 = none := by
  rw [restoreAction, inputOfNat_eq_none_iff.2 h]
  rfl

end Sys2Proof.Machine

/-! ## The statement -/

namespace Sys2Proof.TheCueLine

open Sys2Proof Sys2Proof.Machine Sys2Proof.Safety

/-- Settles O30: the two settings frames by their fields' places, codes and clamps, the other commands by the tables of their codes. -/
theorem settingsFramesAreReadAndClamped : Obligations.SettingsFramesAreReadAndClamped := by
  refine ⟨fun m0 m1 body => ?transet, fun b0 m0 m1 body => ?keyset, leverAction_eq, fun b0 b1 => ?short⟩
  case transet =>
    refine ⟨fun wrong => transetAction_eq_none fun hlen => absurd hlen wrong,
      fun hlen => ⟨fun outside => transetAction_eq_none fun _ => RawTranset.not_legal outside, fun type pattern mode => ?_⟩⟩
    have legal : (transetValues (word16 m0 m1) body).Legal := ⟨type, pattern, mode⟩
    exact (transetAction_eq_some hlen legal).trans (congrArg (fun f => some (Action.transet f)) (clampTranset_of_legal legal))
  case keyset =>
    refine ⟨fun wrong => keysetAction_eq_none fun hlen => absurd hlen wrong,
      fun outside => keysetAction_no_layer (layerOfNat_eq_none_iff.2 outside),
      fun hlen => ⟨fun outside => keysetAction_eq_none fun _ => RawKeyset.not_legal outside,
        fun layer hlayer type maskMode stack => ?_⟩⟩
    have legal : (keysetValues (word16 m0 m1) body).Legal := ⟨type, maskMode, stack⟩
    exact (keysetAction_eq_some hlayer hlen legal).trans (congrArg (fun f => some (Action.keyset layer f)) (clampKeyset_of_legal legal))
  case short =>
    refine ⟨pickAction_eq b0 b1, fun h => ?cut, fun h => ?auto, fun h => ?mode, keytakeAction_eq_none, fun l hl h1 => ?keytake, rfl,
      fun i => restoreAction_eq_some, restoreAction_eq_none⟩
    case cut => simp [takeAction_eq, h]
    case auto => simp [takeAction_eq, h]
    case mode => simp [takeAction_eq, Nat.not_le.2 h]
    case keytake =>
      have layer : layerOfNat b0.toNat = some l := by rw [← hl, ← layerOfNat_succ, Nat.sub_add_cancel h1]
      refine ⟨fun h => ?_, fun h => ?_⟩
      · simp [keytakeAction_eq_some layer, h]
      · simp [keytakeAction_eq_some layer, h]

end Sys2Proof.TheCueLine
end

section
/-! PROOF. What a step is made of. `Act` says once what a command or the clock can do, `FieldAct` what the work of a switch point can do,
each with the condition under which it is done; an invariant is then proved one act at a time. -/

namespace Sys2Proof.Machine

open Sys2Proof.Safety (Released)

/-! ## The acts -/

/-- What an event can make of the generator's record. -/
inductive RasterAct (r : Raster) : Raster → Prop
  | count : r.sample + 1 < lineSamples r.format → RasterAct r { r with sample := r.sample + 1 }
  | nextLine : RasterAct r r.nextLine
  | toSwitchLine : RasterAct r (r.runTo r.switchLines)
  | toDeadline : RasterAct r (r.runTo r.deadlineLines).takeDeadline
  | deadline : RasterAct r r.takeDeadline
  | toMissCheck : r.refState ≠ .free → RasterAct r r.runToMissCheck.checkMiss
  | missCheck : r.refState ≠ .free → RasterAct r r.checkMiss
  | leaveLock : RasterAct r r.leaveLock
  | realign : r.refState = .free → RasterAct r { r with missCount := 0, startSeen := true, refState := .realign }
  | follow (n : Nat) : r.refState = .locked → RasterAct r { r with missCount := 0, startSeen := true, rate := .disciplined n }
  | reload (fi : FieldId) (dev : Int) (n : Nat) : fi ∈ fieldsOf r.format → r.refState ≠ .free →
      RasterAct r
        (({ r with missCount := 0, startSeen := true, refState := .locked, rate := .disciplined n } : Raster).reload fi dev)

/-- What an event on the Cue Line can make of the port's record. -/
inductive PortAct (p : Port) : Port → Prop
  | lineIdle : PortAct p p.lineIdle
  | lineBusy : PortAct p p.lineBusy
  | loseArbitration : PortAct p p.loseArbitration
  | passByte0 : PortAct p p.passByte0
  | transmitError : PortAct p p.transmitError
  | dropSpent : PortAct p p.dropSpent
  | completeAttempt : PortAct p p.completeAttempt
  | discard (ending : AssemblyEnd) : PortAct p (p.discard ending)
  | arrived : PortAct p p.arrived

/-- What an event at an input can make of its record. -/
inductive InputAct (raster : Raster) (window : Nat) (r : InputRecord) : InputRecord → Prop
  | arrive (l : VideoLine) : InputAct raster window r (r.arrive raster window l)
  | absence : InputAct raster window r { r with absenceSeen := true }
  | leak : InputAct raster window r r.leak

/-- A configuration that can come into force at a station: the default one, or what an accepted block is read as (R180). -/
def Loadable (station : Station) (c : Configuration) : Prop :=
  c = .default station ∨ ∃ content, c = readConfiguration station content

/-- A key rate that an action carries lies in its range (R152). -/
def Action.RateInRange (a : Action) : Prop := ∀ l f r, a = .keyset l f → f.rate = some r → 1 ≤ r ∧ r ≤ 999

/-- The acts that commands and the clock are made of. -/
inductive Act : State → State → Prop
  | queue (s : State) (rest : List Instr) : Act s (s.setPending rest)
  | reset (s : State) : Act s (assertReset s)
  | release (s : State) (station : Station) (final : Bool) : s.loader.inputAsserted = true →
      Act s (readStraps station final .flash s)
  | releaseDefaults (s : State) (station : Station) (final : Bool) : s.loader.inputAsserted = true →
      Act s (applyDefaults (readStraps station final .defaults s))
  | load (s : State) (c : Configuration) (isDefault : Bool) : Released s → s.loader.state = .loading →
      Loadable s.loader.station c → Act s (applyConfiguration c isDefault s)
  | enter (s : State) : Released s → s.loader.state = .listening → 8 ≤ s.loader.listeningCount →
      Act s (noteAnnounced (deriveField (enterRunning s)))
  | turn (s : State) (r : Raster) : Released s → RasterAct s.raster r → Act s (s.setRaster r)
  | line (s : State) (r : Raster) : Released s → RasterAct s.raster r → Act s (beginLine (s.setRaster r))
  | input (s : State) (i : InputNo) (f : InputRecord → InputRecord) : Released s →
      (∀ r, InputAct s.raster s.monitor.window r (f r)) → Act s (s.setMonitor (s.monitor.modify i f))
  | tick (s : State) : Released s → Act s (s.setMonitor s.monitor.tick)
  | switchPoint (s : State) : Released s → Act s (takeSwitchPoint s)
  | complete (s : State) : Released s → s.engine.completionDue = true → Act s (deriveSets (resolveSources (complete s)))
  | expire (s : State) (named : PeerEntry → Bool) : Released s → Act s (expireWhere named s)
  | clearDuplicate (s : State) : Released s → Act s (s.setPeers { s.peers with duplicate := false })
  | repeatStanding (s : State) : Released s → s.loader.state = .running → Act s (repeatStanding s)
  | port (s : State) (p : Port) : Released s → PortAct s.port p → Act s (s.setPort p)
  | attempt (s : State) : s.mayBegin = true → Act s (beginAttempt s)
  | duplicate (s : State) : Released s → Act s (hearDuplicate s)
  | delegate (s : State) (sender : Station) (d : Option Station) : Released s → sender ≠ s.loader.station →
      Act s (recordDelegate sender d s)
  | standing (s : State) (sender : Station) (m : MixFields) : Released s → sender ≠ s.loader.station →
      Act s (recordStanding sender m s)
  | heard (s : State) (sender : Station) : Released s → sender ≠ s.loader.station → Act s (recordHeard sender s)
  | refuse (s : State) (target : Station) (kind : FrameKind) (reason : Reason) (detail : Byte) : s.loader.state = .running →
      Act s (refuse target kind reason detail s)
  | own (s : State) (p : Station) : s.loader.state = .running → s.intake.leverPolicy = .latest → s.mayOwn p = true →
      Act s (setOwner (some p) s)
  | join (s : State) (sender : Station) (a : Action) : s.loader.state = .running → takesAction s.intake.queue a = true →
      a.RateInRange → Act s (s.setIntake { s.intake with queue := joined s.intake.queue a sender s.raster.due })

/-- Acts in sequence. -/
abbrev Acts : State → State → Prop := Relation.ReflTransGen Act

theorem Act.acts {s t : State} (h : Act s t) : Acts s t := .single h

/-! ## Events and moves -/

theorem whenReleased_acts {f : State → State} {s t : State} (hf : Released s → Acts s (f s))
    (h : whenReleased f s = .next t) : Acts s t := by
  cases ha : s.loader.inputAsserted with
  | true => cases (whenReleased_asserted f s ha).symm.trans h; exact .refl
  | false => cases (whenReleased_released f s ha).symm.trans h; exact hf ha

@[simp] theorem applyConfiguration_loader (c : Configuration) (isDefault : Bool) (s : State) :
    (applyConfiguration c isDefault s).loader = s.loader.finish isDefault := by
  simp [applyConfiguration]

theorem Loader.unreadable_loading {l : Loader} (h : l.unreadable = true) : l.state = .loading := by
  by_contra hl
  simp [l.unreadable_of_state hl] at h

theorem endUnreadable_acts {s : State} (h : Released s) : Acts s (endUnreadable s) ∧ Released (endUnreadable s) := by
  unfold endUnreadable
  split
  · next hu => exact ⟨(Act.load s _ true h (Loader.unreadable_loading hu) (.inl rfl)).acts,
      by simpa [applyDefaults, Released, Loader.finish] using h⟩
  · exact ⟨.refl, h⟩

theorem whenCounting_acts {f : State → State} {s t : State} (hf : ∀ u, Released u → Acts u (f u))
    (h : whenCounting f s = .next t) : Acts s t :=
  whenReleased_acts (fun hr => (endUnreadable_acts hr).1.trans (hf _ (endUnreadable_acts hr).2)) h

theorem moveCounters_acts {s : State} {r : Raster} (h : Released s) (hr : RasterAct s.raster r) :
    Acts s (moveCounters r s) := by
  unfold moveCounters
  split
  · exact (Act.turn s r h hr).acts
  · exact (Act.line s r h hr).acts

theorem startLine_acts {s : State} (h : Released s) : Acts s (startLine s) := (Act.line s _ h .nextLine).acts

theorem meetSwitchPoint_acts {s : State} (h : Released s) : Acts s (meetSwitchPoint s) := by
  unfold meetSwitchPoint
  split
  · exact (Act.switchPoint s h).acts
  · exact .refl

/-- A reload takes the start of the field and moves the counters in one act. -/
theorem reload_acts {s : State} {fi : FieldId} {r : Raster} (dev : Int) (h : Released s)
    (hr : RasterAct s.raster (r.reload fi dev)) : Acts s (reload fi dev (s.setRaster r)) := by
  simp only [reload]
  split
  · exact (Act.turn s _ h hr).acts
  · split
    · exact (Act.turn s _ h hr).acts.trans (meetSwitchPoint_acts h)
    · exact (Act.line s _ h hr).acts.trans (meetSwitchPoint_acts (by simpa [Released] using h))

theorem takeReferenceStart_acts {s : State} {fi : FieldId} (h : Released s) (hf : fi ∈ fieldsOf s.raster.format) :
    Acts s (takeReferenceStart fi s) := by
  simp only [takeReferenceStart]
  split
  case h_1 free => exact (Act.turn s _ h (.realign free)).acts
  case h_2 realign => exact reload_acts _ h (.reload fi _ _ hf (by simp [realign]))
  case h_3 locked =>
    split
    · exact (Act.turn s _ h (.follow _ locked)).acts
    · have step := RasterAct.reload fi (s.raster.deviation fi) (s.raster.countsToNextStart fi 0) hf (by simp [locked])
      rw [← locked] at step
      exact reload_acts _ h step

/-! ## Arrivals -/

theorem deliver_acts {sender : Station} {f : State → State} {s : State}
    (hf : ∀ u, Released u → u.loader.state ≠ .loading → sender ≠ u.loader.station → Acts u (f u)) :
    Acts s (deliver sender f s) := by
  simp only [deliver]
  split
  · exact .refl
  · next hc =>
    obtain ⟨ha, -⟩ := not_or.1 hc
    have hr : Released s := by simpa [Released] using ha
    have arrives : Acts s (s.setPort s.port.arrived) := (Act.port s _ hr .arrived).acts
    split
    · exact arrives
    · next hl =>
      split
      · exact arrives.trans (Act.duplicate (s.setPort s.port.arrived) hr).acts
      · next hs => exact arrives.trans (hf _ hr hl hs)

/-- What is accepted for this station was carried by a panel delegated here whose class allows it, and what is accepted for another is
a TAKE (R148, R150). -/
theorem State.judge_accept {s : State} {sender target : Station} {parsed : Option Action} {a : Action}
    (h : s.judge sender target parsed = .accept a) :
    parsed = some a ∧ ((∃ m, a = .take m) ∨
      s.delegatedHere sender = true ∧ (s.intake.permission sender).allows a = true) := by
  unfold State.judge at h
  split at h
  · cases h
  · split at h
    · unfold State.judgeElsewhere at h
      repeat' split at h
      all_goals cases h
      exact ⟨rfl, .inl ⟨_, rfl⟩⟩
    · split at h
      · cases h
      · next hd =>
        cases parsed with
        | none => cases h
        | some b =>
          simp only at h
          split at h
          · next hp =>
            cases h
            exact ⟨rfl, .inr ⟨by simpa using hd, hp⟩⟩
          · cases h

/-- Only a class of FULL allows a LEVER (R153). -/
theorem Permission.allows_lever {c : Permission} {n : Nat} (h : c.allows (.lever n) = true) : c = .full := by
  cases c <;> simp [Permission.allows] at h ⊢

theorem joinQueue_acts {s : State} {sender : Station} {detail : Byte} {a : Action} (h : s.loader.state = .running)
    (ha : a.RateInRange) : Acts s (joinQueue sender detail a s) := by
  unfold joinQueue
  split
  · next ht => exact (Act.join s sender a h ht ha).acts
  · exact (Act.refuse s _ _ _ _ h).acts

theorem acceptCommand_acts {s : State} {sender : Station} {detail : Byte} {a : Action} (h : s.loader.state = .running)
    (ha : a.RateInRange) (hl : ∀ n, a = .lever n → s.mayOwn sender = true) : Acts s (acceptCommand sender detail a s) := by
  unfold acceptCommand
  split
  case h_1 n =>
    unfold ownLever
    cases hp : s.intake.leverPolicy with
    | fixed =>
      by_cases ho : s.intake.leverOwner = some sender
      · simpa [ho] using joinQueue_acts h ha
      · simpa [ho] using Relation.ReflTransGen.refl
    | latest =>
      by_cases ht : takesAction s.intake.queue (.lever n) = true
      · simpa [ht] using (Act.own s sender h hp (hl n rfl)).acts.trans (joinQueue_acts (by simpa using h) ha)
      · simpa [ht] using joinQueue_acts h ha
  case h_2 => exact joinQueue_acts h ha

theorem takeCommand_acts {s : State} {sender target : Station} {kind : FrameKind} {detail : Byte} {parsed : Option Action}
    (hp : ∀ a, parsed = some a → a.RateInRange) : Acts s (takeCommand sender target kind detail parsed s) := by
  unfold takeCommand
  split
  · exact .refl
  · next hl =>
    have hl : s.loader.state = .running := not_not.1 hl
    split
    · exact .refl
    · exact (Act.refuse s _ _ _ _ hl).acts
    · next a hj =>
      obtain ⟨hpa, hd⟩ := State.judge_accept hj
      refine acceptCommand_acts hl (hp a hpa) ?_
      rintro n rfl
      obtain ⟨m, hm⟩ | ⟨hd, hc⟩ := hd
      · cases hm
      · simp [State.mayOwn, hd, Permission.allows_lever hc]

theorem receiveCommand_acts {s : State} {sender target : Station} {kind : FrameKind} {detail : Byte} {parsed : Option Action}
    (hp : ∀ a, parsed = some a → a.RateInRange) : Acts s (receiveCommand sender target kind detail parsed s) :=
  deliver_acts fun u hr _ hs => (Act.heard u sender hr hs).acts.trans (takeCommand_acts hp)

theorem clampRate_range (n : Nat) : 1 ≤ clampRate n ∧ clampRate n ≤ 999 := by
  rw [clampRate_eq]
  omega

/-- The key rate that a KEYSET is read as carrying is clamped (R152). -/
theorem clampKeyset_rate_range {r : RawKeyset} {n : Nat} (h : (clampKeyset r).rate = some n) : 1 ≤ n ∧ n ≤ 999 := by
  simp only [clampKeyset, Option.map_eq_some_iff] at h
  obtain ⟨m, -, rfl⟩ := h
  exact clampRate_range m

/-- An action that is no KEYSET carries no key rate. -/
theorem Action.rateInRange_of_ne {a : Action} (h : ∀ l f, a ≠ .keyset l f) : a.RateInRange := fun l f _ ha _ => absurd ha (h l f)

theorem transetAction_rateInRange {payload : List Byte} {a : Action} (h : transetAction payload = some a) : a.RateInRange := by
  simp only [transetAction] at h
  split at h
  · split at h <;> cases h
    exact Action.rateInRange_of_ne (by simp)
  · cases h

theorem keysetAction_rateInRange {payload : List Byte} {a : Action} (h : keysetAction payload = some a) : a.RateInRange := by
  rintro l f r rfl hr
  simp only [keysetAction] at h
  split at h
  · split at h
    · cases h
    · split at h
      · cases h
        exact clampKeyset_rate_range hr
      · cases h
  · cases h

/-! ## A step -/

theorem takeSwitchPoint_inputAsserted (s : State) : (takeSwitchPoint s).loader.inputAsserted = s.loader.inputAsserted := by
  simp only [takeSwitchPoint]
  split
  · simp
  · unfold workField
    split
    · simp
    · simp [runField, offerDue, offerAll_frame]
    · simp only [countListening]
      split <;> simp [enterRunning]
    · simp

theorem meetSwitchPoint_released {s : State} (h : Released s) : Released (meetSwitchPoint s) := by
  unfold meetSwitchPoint
  split
  · exact (takeSwitchPoint_inputAsserted s).trans h
  · exact h

theorem advanceSample_acts {s : State} (h : Released s) : Acts s (advanceSample s) ∧ Released (advanceSample s) := by
  unfold advanceSample
  split
  · next hc => exact ⟨(Act.turn s _ h (.count hc)).acts, h⟩
  · exact ⟨startLine_acts h, by simpa [Released] using h⟩

theorem meetDeadline_acts {s : State} (h : Released s) : Acts s (meetDeadline s) ∧ Released (meetDeadline s) := by
  unfold meetDeadline
  split
  · exact ⟨(Act.turn s _ h .deadline).acts, h⟩
  · exact ⟨.refl, h⟩

theorem meetMissCheck_acts {s : State} (h : Released s) : Acts s (meetMissCheck s) := by
  unfold meetMissCheck
  split
  · next hc => exact (Act.turn s _ h (.missCheck hc.1)).acts
  · exact .refl

theorem meetAttempt_acts (s : State) : Acts s (meetAttempt s) := by
  unfold meetAttempt
  split
  · next hb => exact (Act.attempt s hb).acts
  · exact .refl

theorem tick_acts (s : State) : Acts s (tick s) := by
  unfold tick
  split
  · exact .refl
  · next ha =>
    obtain ⟨loaded, h⟩ := endUnreadable_acts (show Released s by simpa [Released] using ha)
    obtain ⟨advanced, h⟩ := advanceSample_acts h
    obtain ⟨deadline, h⟩ := meetDeadline_acts h
    exact ((((loaded.trans advanced).trans deadline).trans (meetSwitchPoint_acts h)).trans
      (meetMissCheck_acts (meetSwitchPoint_released h))).trans (meetAttempt_acts _)

/-- Every command is made of acts. -/
theorem exec_acts {c : Instr} {s t : State} (h : exec c s = .next t) : Acts s t := by
  have port {f : Port → Port} (hf : ∀ p, PortAct p (f p)) (h : whenReleased (fun s => s.setPort (f s.port)) s = .next t) :
      Acts s t := whenReleased_acts (fun hr => (Act.port s _ hr (hf _)).acts) h
  cases c with
  | resetAsserted => cases h; exact (Act.reset s).acts
  | resetReleased station final boot =>
    cases h
    split
    · next ha =>
      cases boot with
      | flash => exact (Act.release s station final ha).acts
      | defaults => exact (Act.releaseDefaults s station final ha).acts
    · exact .refl
  | endOfLoading block =>
    unfold exec execEndOfLoading at h
    refine whenReleased_acts (fun hr => ?_) h
    split
    · next hl =>
      split
      · exact (Act.load s _ true hr hl (.inl rfl)).acts
      · split
        · exact .refl
        · exact (Act.load s _ true hr hl (.inl rfl)).acts
        · next content _ => exact (Act.load s _ false hr hl (.inr ⟨content, rfl⟩)).acts
    all_goals exact .refl
  | flashUnreadable => exact whenReleased_acts (fun hr => (endUnreadable_acts hr).1) h
  | enterRunning =>
    unfold exec execEnterRunning at h
    refine whenReleased_acts (fun hr => ?_) h
    split
    · next hc => exact (Act.enter s hr hc.1 hc.2).acts
    · exact .refl
  | lineStart => exact whenCounting_acts (fun _ => startLine_acts) h
  | inputLineArrival i l =>
    unfold exec execInputLineArrival at h
    refine whenReleased_acts (fun hr => ?_) h
    exact (Act.input s i _ hr fun _ => .arrive l).acts
  | absence i =>
    unfold exec execAbsence at h
    refine whenReleased_acts (fun hr => ?_) h
    exact (Act.input s i _ hr fun _ => .absence).acts
  | switchPoint =>
    unfold exec execSwitchPoint at h
    refine whenCounting_acts (fun u hr => ?_) h
    split
    · exact (moveCounters_acts hr .toSwitchLine).trans (Act.switchPoint (moveCounters _ u) (by simpa [Released] using hr)).acts
    · exact .refl
  | cueDeadline =>
    unfold exec execCueDeadline at h
    refine whenCounting_acts (fun u hr => ?_) h
    split
    · exact .refl
    · exact moveCounters_acts hr .toDeadline
  | referenceFieldStart format field =>
    unfold exec execReferenceFieldStart at h
    refine whenCounting_acts (fun u hr => ?_) h
    split
    · next hc => exact takeReferenceStart_acts hr (hc.1 ▸ hc.2)
    · exact .refl
  | missCheck =>
    unfold exec execMissCheck at h
    refine whenCounting_acts (fun u hr => ?_) h
    split
    · exact .refl
    · next hf => exact moveCounters_acts hr (.toMissCheck hf)
  | leaveLock =>
    unfold exec execLeaveLock at h
    refine whenReleased_acts (fun hr => ?_) h
    exact (Act.turn s _ hr .leaveLock).acts
  | completion =>
    unfold exec execCompletion at h
    refine whenReleased_acts (fun hr => ?_) h
    split
    · next hc => exact (Act.complete s hr hc).acts
    · exact .refl
  | keyMixEnds layer =>
    unfold exec execKeyMixEnds at h
    refine whenReleased_acts (fun hr => ?_) h
    split
    · exact (Act.switchPoint s hr).acts
    · exact .refl
  | primaryTick =>
    unfold exec execPrimaryTick at h
    refine whenReleased_acts (fun hr => ?_) h
    exact (Act.tick s hr).acts
  | leakDue i =>
    unfold exec execLeakDue at h
    refine whenReleased_acts (fun hr => ?_) h
    exact (Act.input s i _ hr fun _ => .leak).acts
  | peerExpiry p =>
    unfold exec execPeerExpiry at h
    refine whenReleased_acts (fun hr => ?_) h
    exact (Act.expire s _ hr).acts
  | duplicateFlagClear =>
    unfold exec execDuplicateFlagClear at h
    refine whenReleased_acts (fun hr => ?_) h
    split
    · exact (Act.clearDuplicate s hr).acts
    · exact .refl
  | standingRepeat =>
    unfold exec execStandingRepeat at h
    refine whenReleased_acts (fun hr => ?_) h
    split
    · next hc => exact (Act.repeatStanding s hr hc).acts
    · exact .refl
  | attemptBegins =>
    unfold exec execAttemptBegins at h
    refine whenReleased_acts (fun hr => ?_) h
    split
    · next hb => exact (Act.attempt s hb).acts
    · exact .refl
  | lineIdle => exact port (fun _ => .lineIdle) h
  | lineBusy => exact port (fun _ => .lineBusy) h
  | arbitrationLoss => exact port (fun _ => .loseArbitration) h
  | attemptPassesByte0 => exact port (fun _ => .passByte0) h
  | transmitError => exact port (fun _ => .transmitError) h
  | frameDropped => exact port (fun _ => .dropSpent) h
  | attemptCompletes => exact port (fun _ => .completeAttempt) h
  | frameDiscarded bytes ending =>
    unfold exec execFrameDiscarded at h
    refine whenReleased_acts (fun hr => ?_) h
    split
    · exact (Act.port s _ hr (.discard ending)).acts
    · exact .refl
  | delegateArrival h' b0 => cases h; exact deliver_acts fun u hr _ hs => (Act.delegate u _ _ hr hs).acts
  | refusalArrival h' b0 b1 b2 => cases h; exact deliver_acts fun u hr _ hs => (Act.heard u _ hr hs).acts
  | standingArrival h' payload =>
    cases h
    split
    · exact deliver_acts fun u hr _ hs => (Act.standing u _ _ hr hs).acts
    · exact .refl
  | transetArrival h' payload =>
    cases h
    split
    · exact receiveCommand_acts fun a ha => transetAction_rateInRange ha
    · exact .refl
  | keysetArrival h' payload =>
    cases h
    split
    · exact receiveCommand_acts fun a ha => keysetAction_rateInRange ha
    · exact .refl
  | pickArrival h' b0 b1 =>
    cases h
    refine receiveCommand_acts fun a ha => ?_
    obtain ⟨bus, -, rfl⟩ := Option.map_eq_some_iff.1 ha
    exact Action.rateInRange_of_ne (by simp)
  | leverArrival h' b0 b1 =>
    cases h
    refine receiveCommand_acts fun a ha => ?_
    cases ha
    exact Action.rateInRange_of_ne (by simp)
  | takeArrival h' b0 =>
    cases h
    refine receiveCommand_acts fun a ha => ?_
    obtain ⟨m, -, rfl⟩ := Option.map_eq_some_iff.1 ha
    exact Action.rateInRange_of_ne (by simp)
  | keytakeArrival h' b0 b1 =>
    cases h
    refine receiveCommand_acts fun a ha => ?_
    unfold keytakeAction at ha
    split at ha <;> cases ha
    exact Action.rateInRange_of_ne (by simp)
  | nextselArrival h' b0 =>
    cases h
    refine receiveCommand_acts fun a ha => ?_
    cases ha
    exact Action.rateInRange_of_ne (by simp)
  | restoreArrival h' b0 =>
    cases h
    refine receiveCommand_acts fun a ha => ?_
    obtain ⟨i, -, rfl⟩ := Option.map_eq_some_iff.1 ha
    exact Action.rateInRange_of_ne (by simp)

theorem step_acts {s t : State} (h : step s = .next t) : Acts s t := by
  unfold step at h
  split at h
  · cases h
    exact tick_acts s
  · exact (Act.queue s _).acts.trans (exec_acts h)

/-- A property that every act keeps is kept by every step. -/
theorem keptByStep_of_act {inv : State → Prop} (h : ∀ {s t}, Act s t → inv s → inv t) : Safety.KeptByStep inv := by
  intro s t hs hst
  have acts := step_acts hst
  clear hst
  induction acts with
  | refl => exact hs
  | tail _ act ih => exact h act ih

/-! ## A switch point -/

/-- What the work of a switch point does before the field is derived: the advances and, in RUNNING, the expiries, the reversion of a bus,
the answers of the owners, the queue that is left, and the quiet count. -/
inductive FieldAct : State → State → Prop
  | grow (s : State) : FieldAct s (s.setPeers s.peers.grow)
  | engine (s : State) : FieldAct s (advanceEngine s)
  | keys (s : State) : FieldAct s (advanceKeys s)
  | monitor (s : State) : FieldAct s (advanceMonitor s)
  | expire (s : State) (named : PeerEntry → Bool) : FieldAct s (expireWhere named s)
  | revert (s : State) (named : List Source) (bus : Bus) : s.loader.state = .running → FieldAct s (revertBus named s bus)
  | applied (s t : State) (e : Entry) : s.loader.state = .running → e ∈ s.intake.queue → offer e s = .applied t → FieldAct s t
  | refuse (s : State) (target : Station) (kind : FrameKind) (reason : Reason) (detail : Byte) : s.loader.state = .running →
      FieldAct s (refuse target kind reason detail s)
  | requeue (s : State) (q : List Entry) : q.Subperm s.intake.queue → FieldAct s (s.setIntake { s.intake with queue := q })
  | quiet (s : State) : FieldAct s (s.setPeers s.peers.countQuiet)

abbrev FieldActs : State → State → Prop := Relation.ReflTransGen FieldAct

theorem FieldAct.acts {s t : State} (h : FieldAct s t) : FieldActs s t := .single h

theorem advanceAll_fieldActs (s : State) : FieldActs s (advanceAll s) :=
  (((FieldAct.grow s).acts.trans (FieldAct.engine _).acts).trans (FieldAct.keys _).acts).trans (FieldAct.monitor _).acts

theorem revertBuses_fieldActs (named : List Source) (buses : List Bus) {s : State} (h : s.loader.state = .running) :
    FieldActs s (buses.foldl (revertBus named) s) := by
  induction buses generalizing s with
  | nil => exact .refl
  | cons b rest ih => exact (FieldAct.revert s named b h).acts.trans (ih (by simpa using h))

theorem breakCycle_fieldActs {s : State} (h : s.loader.state = .running) : FieldActs s (breakCycle s) := by
  unfold breakCycle
  split
  · exact .refl
  · exact revertBuses_fieldActs _ _ h

/-- An expiry leaves the queue (R167). -/
@[simp] theorem reviseOwner_queue (s : State) : (reviseOwner s).intake.queue = s.intake.queue := by
  unfold reviseOwner
  repeat' split
  all_goals simp [setOwner_intake]

@[simp] theorem expireWhere_queue (named : PeerEntry → Bool) (s : State) :
    (expireWhere named s).intake.queue = s.intake.queue := by
  simp [expireWhere]

@[simp] theorem expireUpTo_queue (c j : Nat) (s : State) : (expireUpTo c j s).intake.queue = s.intake.queue := by
  simp [expireUpTo]

/-- Of the entries only TRANSET, NEXTSEL and KEYSET are ever deferred (R33, R34, R52). -/
theorem offer_deferred {e : Entry} {s : State} (h : offer e s = .deferred) :
    (∃ f, e.action = .transet f) ∨ (∃ n, e.action = .nextsel n) ∨ ∃ l f, e.action = .keyset l f := by
  unfold offer at h
  split at h
  case h_5 f ha => exact .inl ⟨f, ha⟩
  case h_6 n ha => exact .inr (.inl ⟨n, ha⟩)
  case h_8 l f ha => exact .inr (.inr ⟨l, f, ha⟩)
  all_goals
    simp only [offerSelect, offerTakeCut, offerTakeAuto, offerLever, offerKeytake, offerRestore] at h
    (repeat' split at h) <;> cases h

/-- One entry offered: the state it leaves is reached by an act, or is the state as it stood, and it joins the deferred entries exactly
when it is deferred. -/
theorem settleAnswer_cases (e : Entry) (d : List Entry) (s : State) :
    (∃ t, offer e s = .applied t ∧ settleAnswer e d s (offer e s) = (t, d)) ∨
      (offer e s = .deferred ∧ settleAnswer e d s (offer e s) = (s, d ++ [e])) ∨
      ∃ reason detail, offer e s = .refused reason detail ∧
        settleAnswer e d s (offer e s) = (refuse e.sender e.action.frameKind reason detail s, d) := by
  cases h : offer e s with
  | applied t => exact .inl ⟨t, rfl, rfl⟩
  | deferred => exact .inr (.inl ⟨rfl, rfl⟩)
  | refused reason detail => exact .inr (.inr ⟨reason, detail, rfl, rfl⟩)

/-- Offering entries leaves the queue. -/
theorem offerAll_queue (c : Nat) (es : List Entry) : ∀ (j : Nat) (d : List Entry) (s : State),
    (offerAll c j es d s).1.intake.queue = s.intake.queue := by
  induction es with
  | nil => exact fun _ _ _ => rfl
  | cons e rest ih =>
    intro j d s
    simp only [offerAll]
    rcases settleAnswer_cases e d (expireUpTo c j s) with ⟨t, ho, ha⟩ | ⟨-, ha⟩ | ⟨reason, detail, -, ha⟩ <;> rw [ha, ih]
    · simp [(offer_applied_frame e _ t ho).2]
    · simp
    · simp

/-- The deferred entries are, in their order, TRANSET, NEXTSEL and KEYSET entries among those offered. -/
theorem offerAll_deferred (c : Nat) (es : List Entry) : ∀ (j : Nat) (d : List Entry) (s : State),
    ∃ d', (offerAll c j es d s).2 = d ++ d' ∧ d'.Sublist es ∧
      ∀ e ∈ d', (∃ f, e.action = .transet f) ∨ (∃ n, e.action = .nextsel n) ∨ ∃ l f, e.action = .keyset l f := by
  induction es with
  | nil => exact fun _ d _ => ⟨[], by simp [offerAll]⟩
  | cons e rest ih =>
    intro j d s
    simp only [offerAll]
    rcases settleAnswer_cases e d (expireUpTo c j s) with ⟨t, -, ha⟩ | ⟨ho, ha⟩ | ⟨reason, detail, -, ha⟩ <;> rw [ha]
    · obtain ⟨d', hd, hs, hk⟩ := ih (j + 1) d t
      exact ⟨d', hd, hs.cons _, hk⟩
    · obtain ⟨d', hd, hs, hk⟩ := ih (j + 1) (d ++ [e]) (expireUpTo c j s)
      refine ⟨e :: d', by simpa using hd, hs.cons_cons _, fun x hx => ?_⟩
      rcases List.mem_cons.1 hx with rfl | hx
      · exact offer_deferred ho
      · exact hk x hx
    · obtain ⟨d', hd, hs, hk⟩ := ih (j + 1) d (refuse e.sender e.action.frameKind reason detail (expireUpTo c j s))
      exact ⟨d', hd, hs.cons _, hk⟩

theorem offerAll_fieldActs (c : Nat) (es : List Entry) : ∀ (j : Nat) (d : List Entry) (s : State),
    s.loader.state = .running → (∀ e ∈ es, e ∈ s.intake.queue) → FieldActs s (offerAll c j es d s).1 := by
  induction es with
  | nil => exact fun _ _ _ _ _ => .refl
  | cons e rest ih =>
    intro j d s h hq
    have expired : FieldActs s (expireUpTo c j s) := (FieldAct.expire s _).acts
    have running : (expireUpTo c j s).loader.state = .running := by simpa using h
    have here : e ∈ (expireUpTo c j s).intake.queue := by simpa using hq e (by simp)
    have later : ∀ x ∈ rest, x ∈ (expireUpTo c j s).intake.queue := fun x hx => by simpa using hq x (by simp [hx])
    simp only [offerAll]
    rcases settleAnswer_cases e d (expireUpTo c j s) with ⟨t, ho, ha⟩ | ⟨-, ha⟩ | ⟨reason, detail, -, ha⟩ <;> rw [ha] <;>
      refine expired.trans ?_
    · have frame := offer_applied_frame e _ t ho
      exact (FieldAct.applied _ t e running here ho).acts.trans (ih _ _ t (by simpa [frame] using h) (by simpa [frame] using later))
    · exact ih _ _ _ running later
    · exact (FieldAct.refuse _ _ _ _ _ running).acts.trans (ih _ _ _ (by simpa using h) (by simpa using later))

/-- The queue that a switch point leaves: deferred entries, then the entries not yet due (R160). -/
theorem offerDue_queue (c : Nat) (s : State) :
    ∃ d, (offerDue c s).intake.queue = d ++ s.intake.queue.filter (fun e => !decide (e.due ≤ s.raster.field)) ∧
      d.Sublist (s.intake.queue.filter fun e => decide (e.due ≤ s.raster.field)) ∧
      ∀ e ∈ d, (∃ f, e.action = .transet f) ∨ (∃ n, e.action = .nextsel n) ∨ ∃ l f, e.action = .keyset l f := by
  obtain ⟨d, hd, hs, hk⟩ := offerAll_deferred c (s.intake.queue.filter fun e => decide (e.due ≤ s.raster.field)) 1 [] s
  refine ⟨d, ?_, hs, hk⟩
  simp only [offerDue, State.setIntake_intake, hd, List.nil_append, offerAll_queue]

theorem offerDue_fieldActs (c : Nat) {s : State} (h : s.loader.state = .running) : FieldActs s (offerDue c s) := by
  obtain ⟨d, hd, hs, -⟩ := offerAll_deferred c (s.intake.queue.filter fun e => decide (e.due ≤ s.raster.field)) 1 [] s
  have offered := offerAll_fieldActs c (s.intake.queue.filter fun e => decide (e.due ≤ s.raster.field)) 1 [] s h
    fun e he => (List.mem_filter.1 he).1
  refine offered.trans (FieldAct.requeue _ _ ?_).acts
  rw [offerAll_queue, hd]
  exact (hs.append (List.Sublist.refl _)).subperm.trans (List.filter_append_perm _ _).subperm

theorem runField_fieldActs (c : Nat) {s : State} (h : s.loader.state = .running) : FieldActs s (runField c s) :=
  ((((FieldAct.expire s _).acts.trans (breakCycle_fieldActs (by simpa using h))).trans
    (offerDue_fieldActs c (by simpa [expireUpTo] using h))).trans (FieldAct.quiet _).acts)

theorem FieldAct.loader {s t : State} (h : FieldAct s t) : t.loader = s.loader := by
  cases h with
  | applied _ e _ _ ho => exact (offer_applied_frame e s t ho).1
  | _ => simp

/-- What a switch point makes of a property: `mid` is what the work of the field keeps of it, and each station state ends the field in its
own way. -/
theorem takeSwitchPoint_keeps {inv mid : State → Prop} {s : State} (opened : mid (openField s))
    (act : ∀ {u v}, FieldAct u v → mid u → mid v)
    (loading : s.loader.state = .loading →
      inv ((openField s).setLoader { s.loader with loadingSwitchPoints := s.loader.loadingSwitchPoints + 1 }))
    (running : ∀ u, u.loader = s.loader → s.loader.state = .running → mid u →
      inv (noteAnnounced (announceField (deriveField (expireWhere (fun _ => true) u)))))
    (listening : ∀ u, u.loader = s.loader → s.loader.state = .listening → mid u →
      inv (noteAnnounced (deriveField (countListening (expireWhere (fun _ => true) u)))))
    (barred : ∀ u, u.loader = s.loader → s.loader.state = .barred → mid u →
      inv (noteAnnounced (deriveField (expireWhere (fun _ => true) u)))) : inv (takeSwitchPoint s) := by
  have loader : (openField s).loader = s.loader := by simp
  have reached {u : State} (h : FieldActs (openField s) u) : u.loader = s.loader ∧ mid u := by
    induction h with
    | refl => exact ⟨loader, opened⟩
    | tail _ h ih => exact ⟨h.loader.trans ih.1, act h ih.2⟩
  have advanced := advanceAll_fieldActs (openField s)
  simp only [takeSwitchPoint]
  rw [loader]
  split
  · next h => exact loading h
  · next h =>
    unfold workField
    rw [loader]
    split
    · next h' => exact absurd h' h
    · next h' =>
      have u := reached (advanced.trans (runField_fieldActs s.freeCount (by simpa using h')))
      exact running _ u.1 h' u.2
    · next h' => exact listening _ (reached advanced).1 h' (reached advanced).2
    · next h' => exact barred _ (reached advanced).1 h' (reached advanced).2

end Sys2Proof.Machine
end

section
/-! PROOF. The Start-up Loader's invariant, the stack order and the Cue Line Port: what each event makes of the port's record, that every
act keeps it sound, and the statements about attempts. -/

namespace Sys2Proof.Machine

open Sys2Proof.Safety

/-! ## The Start-up Loader (R179 to R181) -/

@[simp] theorem enterRunning_loader (s : State) : (enterRunning s).loader = { s.loader with state := .running } := by
  simp [enterRunning]

/-- The listening count rises by one, and at 8 the station is in RUNNING (R181). -/
theorem countListening_loader (s : State) : (countListening s).loader =
    { s.loader with
      listeningCount := s.loader.listeningCount + 1,
      state := if 8 ≤ s.loader.listeningCount + 1 then .running else s.loader.state } := by
  by_cases h : 8 ≤ s.loader.listeningCount + 1 <;> simp [countListening, Config.listeningPeriod, h]

/-- A duplicate arrival bars a station in LISTENING and leaves the station state of every other (R168, R181). -/
theorem hearDuplicate_loader (s : State) : (hearDuplicate s).loader =
    { s.loader with state := if s.loader.state = .listening then .barred else s.loader.state } := by
  unfold hearDuplicate
  split <;> rename_i h <;> simp [h] <;> simp [← h]

theorem loaderSound_act {s t : State} (h : Act s t) (hs : LoaderSound s) : LoaderSound t := by
  cases h with
  | reset => simp [LoaderSound, assertReset, Loader.reset]
  | release => exact ⟨by simp [readStraps], by simpa [readStraps] using hs.2⟩
  | releaseDefaults => exact ⟨by simp [applyDefaults, readStraps, Loader.finish], by simp [applyDefaults, Loader.finish]⟩
  | load c isDefault released =>
    have : s.loader.inputAsserted = false := released
    simp [LoaderSound, Loader.finish, this]
  | enter released =>
    have : s.loader.inputAsserted = false := released
    simp [LoaderSound, this]
  | duplicate released =>
    have : s.loader.inputAsserted = false := released
    simp only [LoaderSound, hearDuplicate_loader, this]
    split <;> simp_all [hs.2]
  | switchPoint released =>
    have same {u : State} (h : u.loader = s.loader) : LoaderSound u := by rwa [LoaderSound, h]
    refine takeSwitchPoint_keeps (mid := fun u => u.loader = s.loader) (by simp) (fun a h => a.loader.trans h) (fun hl => ?_)
      (fun u hu _ _ => same (by simpa using hu)) (fun u hu hl _ => ?_) (fun u hu _ _ => same (by simpa using hu))
    · simp [LoaderSound, hl]
    · have : s.loader.inputAsserted = false := released
      simp only [LoaderSound, noteAnnounced_frame, deriveField_frame, countListening_loader, expireWhere_frame, hu, hl, this]
      split
      · simp
      · simp_all
        omega
  | _ => simpa [LoaderSound] using hs

/-- RUNNING is left by a reset alone. -/
theorem takeSwitchPoint_running {s : State} (h : s.loader.state = .running) : (takeSwitchPoint s).loader.state = .running := by
  refine takeSwitchPoint_keeps (inv := fun t => t.loader.state = .running) (mid := fun u => u.loader.state = .running) (by simpa)
    (fun a hu => by rwa [a.loader]) ?_ ?_ ?_ ?_ <;> simp +contextual [h]

/-! ## What each event makes of the port -/

/-- A STANDING whose error count has reached 3 is dropped (R133). -/
theorem Port.dropSpent_standing {p : Port} (h : 3 ≤ p.standingErrors) (hr : p.refusals = []) :
    p.dropSpent = { p with standingErrors := 0, standingPending := p.standingRenewed, standingRenewed := false } := by
  simp [dropSpent, Config.errorLimit, h, hr]

/-- A refusal whose error count has reached 3 leaves the head of its queue (R133). -/
theorem Port.dropSpent_refusal {p : Port} {r : RefusalRecord} {rest : List RefusalRecord} (h : p.standingErrors < 3)
    (hr : p.refusals = r :: rest) (he : 3 ≤ r.errors) : p.dropSpent = { p with refusals := rest } := by
  simp [dropSpent, Config.errorLimit, Nat.not_le.2 h, hr, he]

/-- With no such frame nothing is dropped. -/
theorem Port.dropSpent_none {p : Port} (h : p.standingErrors < 3) (hr : ∀ r ∈ p.refusals, r.errors < 3) : p.dropSpent = p := by
  have hs : ¬ 3 ≤ p.standingErrors := by omega
  cases hq : p.refusals with
  | nil => simp [dropSpent, Config.errorLimit, hs, hq]
  | cons r rest =>
    have he : ¬ 3 ≤ r.errors := Nat.not_le.2 (hr r (by simp [hq]))
    simp [dropSpent, Config.errorLimit, hs, hq, he]

/-- A STANDING whose error count has reached 3 is dropped, whatever refusals wait behind it, when none of them is spent. -/
theorem Port.dropSpent_standing_of_refusals {p : Port} (h : 3 ≤ p.standingErrors) (hr : ∀ r ∈ p.refusals, r.errors < 3) :
    p.dropSpent = { p with standingErrors := 0, standingPending := p.standingRenewed, standingRenewed := false } := by
  cases hq : p.refusals with
  | nil => rw [dropSpent_standing h hq, hq]
  | cons r rest =>
    have he : ¬ 3 ≤ r.errors := Nat.not_le.2 (hr r (by simp [hq]))
    simp [dropSpent, Config.errorLimit, h, hq, he]

section
variable {p : Port} {a : Attempt} (ha : p.attempt = some a)
include ha

theorem Port.loseArbitration_byte0 (hb : a.passedByte0 = false) : p.loseArbitration = { p with attempt := none } := by
  simp [loseArbitration, ha, hb]

theorem Port.passByte0_charged (hb : a.passedByte0 = false) (hf : a.field = p.budgetField) :
    p.passByte0 = { p with attempt := some { a with passedByte0 := true }, budgetCount := p.budgetCount + 1 } := by
  simp [passByte0, ha, hb, hf]

theorem Port.passByte0_earlier (hb : a.passedByte0 = false) (hf : a.field ≠ p.budgetField) :
    p.passByte0 = { p with attempt := some { a with passedByte0 := true } } := by
  simp [passByte0, ha, hb, hf]

theorem Port.passByte0_passed (hb : a.passedByte0 = true) : p.passByte0 = p := by
  simp [passByte0, ha, hb]

/-- A transmit error of STANDING below the limit is counted (R133). -/
theorem Port.transmitError_standing_counted (hs : a.slot = .standing) (hr : ∀ r ∈ p.refusals, r.errors < 3)
    (he : p.standingErrors < 2) :
    p.transmitError = { p with attempt := none, standingErrors := p.standingErrors + 1 } := by
  have none := dropSpent_none (p := { p with attempt := none, standingErrors := p.standingErrors + 1 }) (Nat.succ_lt_succ he) hr
  simpa [transmitError, ha, hs] using none

/-- The third drops it (R133). -/
theorem Port.transmitError_standing_dropped (hs : a.slot = .standing) (hr : ∀ r ∈ p.refusals, r.errors < 3)
    (he : 2 ≤ p.standingErrors) :
    p.transmitError =
      { p with attempt := none, standingErrors := 0, standingPending := p.standingRenewed, standingRenewed := false } := by
  have drops := dropSpent_standing_of_refusals (p := { p with attempt := none, standingErrors := p.standingErrors + 1 })
    (Nat.succ_le_succ he) hr
  simpa [transmitError, ha, hs] using drops

/-- A transmit error of a refusal below the limit is counted (R133). -/
theorem Port.transmitError_refusal_counted {r : RefusalRecord} {rest : List RefusalRecord} (hs : a.slot = .refusal)
    (hr : p.refusals = r :: rest) (hp : p.standingErrors < 3) (hrest : ∀ x ∈ rest, x.errors < 3) (he : r.errors < 2) :
    p.transmitError = { p with attempt := none, refusals := { r with errors := r.errors + 1 } :: rest } := by
  have none := dropSpent_none (p := { p with attempt := none, refusals := { r with errors := r.errors + 1 } :: rest }) hp
    (by simpa using ⟨by omega, hrest⟩)
  simpa [transmitError, ha, hs, hr] using none

/-- The third drops it (R133). -/
theorem Port.transmitError_refusal_dropped {r : RefusalRecord} {rest : List RefusalRecord} (hs : a.slot = .refusal)
    (hr : p.refusals = r :: rest) (hp : p.standingErrors < 3) (he : 2 ≤ r.errors) :
    p.transmitError = { p with attempt := none, refusals := rest } := by
  have drops := dropSpent_refusal (p := { p with attempt := none, refusals := { r with errors := r.errors + 1 } :: rest }) hp rfl
    (Nat.succ_le_succ he)
  simpa [transmitError, ha, hs, hr] using drops

theorem Port.completeAttempt_standing (hs : a.slot = .standing) :
    p.completeAttempt =
      { p.passByte0 with
        attempt := none, rx := .ready, standingErrors := 0, standingPending := p.passByte0.standingRenewed,
        standingRenewed := false } := by
  simp [completeAttempt, ha, hs]

theorem Port.completeAttempt_refusal (hs : a.slot = .refusal) :
    p.completeAttempt =
      { p.passByte0 with attempt := none, rx := .ready, refusals := p.passByte0.refusals.tail } := by
  simp [completeAttempt, ha, hs]

end

/-! ## The port's invariant (R130, R131, R133, R135, R136) -/

/-- An attempt sends what is pending, and finds room in the budget while it has not passed byte 0. -/
def Port.Sends (p : Port) (a : Attempt) : Prop :=
  (a.slot = .standing → p.standingPending = true) ∧ (a.slot = .refusal → p.refusals ≠ []) ∧
    (a.passedByte0 = false → a.field = p.budgetField → p.budgetCount < 4)

/-- The port within its slots and its budget. -/
structure Port.Sound (p : Port) : Prop where
  budget : p.budgetCount ≤ 4
  queue : p.refusals.length ≤ 4
  standing : p.standingErrors ≤ 2
  spent : ∀ r ∈ p.refusals, r.errors ≤ 2
  sends : ∀ a, p.attempt = some a → p.Sends a

/-- A port that neither holds nor sends anything. -/
def Port.Silent (p : Port) : Prop := p.standingPending = false ∧ p.refusals = [] ∧ p.attempt = none

theorem portSound_iff {s : State} : PortSound s ↔ s.port.Sound ∧ (s.loader.state ≠ .running → s.port.Silent) :=
  ⟨fun ⟨b, q, e, r, a, o⟩ => ⟨⟨b, q, e, r, a⟩, o⟩, fun ⟨⟨b, q, e, r, a⟩, o⟩ => ⟨b, q, e, r, a, o⟩⟩

theorem Port.Sound.dropSpent_eq {p : Port} (h : p.Sound) : p.dropSpent = p :=
  dropSpent_none (by have := h.standing; omega) fun r hr => by have := h.spent r hr; omega

theorem Port.Sound.passByte0 {p : Port} (h : p.Sound) : p.passByte0.Sound := by
  cases ha : p.attempt with
  | none => simpa [Port.passByte0, ha] using h
  | some a =>
    cases hb : a.passedByte0 with
    | true => rwa [passByte0_passed ha hb]
    | false =>
      obtain ⟨slot, refusal, room⟩ := h.sends a ha
      by_cases hf : a.field = p.budgetField
      · rw [passByte0_charged ha hb hf]
        exact ⟨room hb hf, h.queue, h.standing, h.spent, by rintro _ ⟨⟩; exact ⟨slot, refusal, by simp⟩⟩
      · rw [passByte0_earlier ha hb hf]
        exact ⟨h.budget, h.queue, h.standing, h.spent, by rintro _ ⟨⟩; exact ⟨slot, refusal, by simp⟩⟩

theorem Port.Sound.transmitError {p : Port} (h : p.Sound) : p.transmitError.Sound := by
  cases ha : p.attempt with
  | none => simpa [Port.transmitError, ha] using h
  | some a =>
    have spent : ∀ r ∈ p.refusals, r.errors < 3 := fun r hr => Nat.lt_succ_of_le (h.spent r hr)
    cases hs : a.slot with
    | standing =>
      by_cases he : p.standingErrors < 2
      · rw [transmitError_standing_counted ha hs spent he]
        exact ⟨h.budget, h.queue, he, h.spent, by simp⟩
      · rw [transmitError_standing_dropped ha hs spent (Nat.not_lt.1 he)]
        exact ⟨h.budget, h.queue, by simp, h.spent, by simp⟩
    | refusal =>
      obtain ⟨r, rest, hr⟩ := List.exists_cons_of_ne_nil ((h.sends a ha).2.1 hs)
      have hrest : ∀ x ∈ rest, x.errors ≤ 2 := fun x hx => h.spent x (by simp [hr, hx])
      have tail : rest.length + 1 ≤ 4 := by simpa [hr] using h.queue
      have standing := Nat.lt_succ_of_le h.standing
      by_cases he : r.errors < 2
      · rw [transmitError_refusal_counted ha hs hr standing (fun x hx => Nat.lt_succ_of_le (hrest x hx)) he]
        exact ⟨h.budget, tail, h.standing, by simpa using ⟨Nat.le_of_lt_succ he, hrest⟩, by simp⟩
      · rw [transmitError_refusal_dropped ha hs hr standing (Nat.not_lt.1 he)]
        exact ⟨h.budget, Nat.le_of_succ_le tail, h.standing, hrest, by simp⟩

theorem Port.Sound.completeAttempt {p : Port} (h : p.Sound) : p.completeAttempt.Sound := by
  cases ha : p.attempt with
  | none => simpa [Port.completeAttempt, ha] using h
  | some a =>
    have passed := h.passByte0
    cases hs : a.slot with
    | standing =>
      rw [completeAttempt_standing ha hs]
      exact ⟨passed.budget, passed.queue, by simp, passed.spent, by simp⟩
    | refusal =>
      rw [completeAttempt_refusal ha hs]
      exact ⟨passed.budget, by simpa using Nat.le_succ_of_le passed.queue, passed.standing,
        fun r hr => passed.spent r (List.mem_of_mem_tail hr), by simp⟩

/-- Every event on the Cue Line keeps the port sound. -/
theorem Port.Sound.act {p q : Port} (hp : p.Sound) (h : PortAct p q) : q.Sound := by
  have only {l : LineState} {x : RxState} : ({ p with lineState := l, rx := x } : Port).Sound :=
    ⟨hp.budget, hp.queue, hp.standing, hp.spent, hp.sends⟩
  cases h with
  | lineIdle | arrived => exact only
  | lineBusy =>
    unfold lineBusy
    split
    · exact hp
    · exact only
  | discard ending =>
    unfold discard
    split
    · exact hp
    · exact only
  | loseArbitration =>
    unfold loseArbitration
    repeat' split
    · exact hp
    · exact hp
    · exact ⟨hp.budget, hp.queue, hp.standing, hp.spent, by simp⟩
  | passByte0 => exact hp.passByte0
  | transmitError => exact hp.transmitError
  | dropSpent => rwa [hp.dropSpent_eq]
  | completeAttempt => exact hp.completeAttempt

/-- No event on the Cue Line makes a silent port hold or send anything. -/
theorem Port.Silent.act {p q : Port} (hs : p.Silent) (hp : p.Sound) (h : PortAct p q) : q.Silent := by
  obtain ⟨pending, refusals, attempt⟩ := hs
  cases h with
  | dropSpent => rw [hp.dropSpent_eq]; exact ⟨pending, refusals, attempt⟩
  | lineBusy => unfold lineBusy; split <;> exact ⟨pending, refusals, attempt⟩
  | discard ending => unfold discard; split <;> exact ⟨pending, refusals, attempt⟩
  | lineIdle | arrived => exact ⟨pending, refusals, attempt⟩
  | loseArbitration | passByte0 | transmitError | completeAttempt =>
    simpa [loseArbitration, passByte0, transmitError, completeAttempt, attempt] using ⟨pending, refusals, attempt⟩

theorem Port.Sound.ofReset : Port.reset.Sound := ⟨by decide, by decide, by decide, by simp [Port.reset], by simp [Port.reset]⟩

theorem Port.Sound.refuse {p : Port} (h : p.Sound) (r : RefusalRecord) (hr : r.errors ≤ 2) : (p.refuse r).Sound := by
  unfold Port.refuse
  split
  · next hlt =>
    refine ⟨h.budget, by simpa [Config.refusalCapacity] using hlt, h.standing, fun x hx => ?_, fun a ha => ?_⟩
    · rcases List.mem_append.1 hx with hx | hx
      · exact h.spent x hx
      · rwa [List.mem_singleton.1 hx]
    · obtain ⟨slot, -, room⟩ := h.sends a ha
      exact ⟨slot, by simp, room⟩
  · exact h

theorem Port.Sound.pendStanding {p : Port} (h : p.Sound) : p.pendStanding.Sound :=
  ⟨h.budget, h.queue, h.standing, h.spent, fun a ha => ⟨fun _ => rfl, (h.sends a ha).2⟩⟩

theorem Port.Sound.newBudget {p : Port} (h : p.Sound) (field : Nat) : (p.newBudget field).Sound :=
  ⟨by simp [Port.newBudget], h.queue, h.standing, h.spent, fun a ha =>
    ⟨(h.sends a ha).1, (h.sends a ha).2.1, fun _ _ => by simp [Port.newBudget]⟩⟩

/-! ### In the state -/

@[simp] theorem refuse_port (target : Station) (kind : FrameKind) (reason : Reason) (detail : Byte) (s : State) :
    (Machine.refuse target kind reason detail s).port =
      s.port.refuse { target := target, kind := kind, reason := reason, detail := detail, errors := 0 } := rfl

@[simp] theorem pendStanding_port (s : State) : (Machine.pendStanding s).port = s.port.pendStanding := rfl

@[simp] theorem openField_port (s : State) : (openField s).port = s.port.newBudget (s.raster.field + 1) := rfl

/-- The conditions of R131. -/
theorem State.mayBegin_iff {s : State} : s.mayBegin = true ↔
    s.loader.state = .running ∧ s.port.lineState = .idle ∧ s.port.attempt = none ∧ s.port.budgetCount < 4 ∧
      (s.port.standingPending = true ∨ s.port.refusals ≠ []) := by
  simp only [State.mayBegin, Bool.and_eq_true, Bool.or_eq_true, beq_iff_eq, Option.isNone_iff_eq_none,
    decide_eq_true_eq, Bool.not_eq_true', List.isEmpty_eq_false_iff, and_assoc]
  rfl

theorem beginAttempt_standing {s : State} (h : s.port.standingPending = true) :
    beginAttempt s = s.setPort { s.port with
      lineState := .busy, rx := .assembling, standingRenewed := false,
      attempt := some { slot := .standing, field := s.raster.field, passedByte0 := false, frame := standingFrame s } } := by
  simp [beginAttempt, h]

theorem beginAttempt_refusal {s : State} {r : RefusalRecord} {rest : List RefusalRecord} (h : s.port.standingPending = false)
    (hr : s.port.refusals = r :: rest) :
    beginAttempt s = s.setPort { s.port with
      lineState := .busy, rx := .assembling,
      attempt := some { slot := .refusal, field := s.raster.field, passedByte0 := false,
                        frame := refusalFrame s.loader.station r } } := by
  simp [beginAttempt, h, hr]

theorem beginAttempt_port_sound {s : State} (hp : s.port.Sound) (h : s.mayBegin = true) : (beginAttempt s).port.Sound := by
  obtain ⟨-, -, -, room, waits⟩ := State.mayBegin_iff.1 h
  cases hs : s.port.standingPending with
  | true =>
    rw [beginAttempt_standing hs]
    exact ⟨hp.budget, hp.queue, hp.standing, hp.spent, by rintro _ ⟨⟩; exact ⟨fun _ => hs, by simp, fun _ _ => room⟩⟩
  | false =>
    obtain ⟨r, rest, hr⟩ := List.exists_cons_of_ne_nil (waits.resolve_left (by simp [hs]))
    rw [beginAttempt_refusal hs hr]
    exact ⟨hp.budget, hp.queue, hp.standing, hp.spent, by rintro _ ⟨⟩; exact ⟨by simp, fun _ => by simp [hr], fun _ _ => room⟩⟩

/-- What a station does to its port of its own accord: a refusal queued, or STANDING made pending. -/
inductive PortChange (p : Port) : Port → Prop
  | refuse (r : RefusalRecord) : r.errors = 0 → PortChange p (p.refuse r)
  | pend : PortChange p p.pendStanding

abbrev PortChanges : Port → Port → Prop := Relation.ReflTransGen PortChange

theorem Port.Sound.changes {p q : Port} (hp : p.Sound) (h : PortChanges p q) : q.Sound := by
  induction h with
  | refl => exact hp
  | tail _ h ih =>
    cases h with
    | refuse r hr => exact ih.refuse r (by simp [hr])
    | pend => exact ih.pendStanding

theorem refuseLoopBroken_changes {s : State} {p : Port} (bus : Bus) (last : Option Station) (h : s.port = p) :
    PortChanges p (refuseLoopBroken bus last s).port := by
  subst h
  unfold refuseLoopBroken
  repeat' split
  · exact .refl
  · exact .single (.refuse _ rfl)
  · exact .refl

theorem revertBus_changes (s : State) (named : List Source) (bus : Bus) : PortChanges s.port (revertBus named s bus).port := by
  simp only [revertBus]
  split
  · exact refuseLoopBroken_changes _ _ rfl
  · exact .refl

theorem repeatStanding_changes {s : State} {p : Port} (h : s.port = p) : PortChanges p (repeatStanding s).port := by
  subst h
  unfold repeatStanding
  split
  · exact .single .pend
  · exact .refl

theorem announceField_changes (s : State) : PortChanges s.port (announceField s).port := by
  unfold announceField
  split
  · exact .single .pend
  · exact repeatStanding_changes rfl

theorem enterRunning_changes {s : State} {p : Port} (h : s.port = p) : PortChanges p (enterRunning s).port := by
  subst h
  simpa [enterRunning] using Relation.ReflTransGen.single PortChange.pend

theorem countListening_changes (s : State) : PortChanges s.port (countListening s).port := by
  simp only [countListening]
  split
  · exact enterRunning_changes rfl
  · exact .refl

/-- Of the work of a field, reversions and refusals alone reach the port. -/
theorem FieldAct.port {s t : State} (h : FieldAct s t) : PortChanges s.port t.port := by
  have same (hp : t.port = s.port) : PortChanges s.port t.port := by rw [hp]
  cases h with
  | revert named bus => exact revertBus_changes s named bus
  | refuse => exact .single (.refuse _ rfl)
  | applied _ e _ _ ho => exact same (offer_applied_frame e s t ho).2.2.1
  | _ => exact same (by simp)

/-- A switch point begins a new budget, and changes the port beyond it of its own accord alone. -/
theorem takeSwitchPoint_changes (s : State) : PortChanges (s.port.newBudget (s.raster.field + 1)) (takeSwitchPoint s).port := by
  refine takeSwitchPoint_keeps (inv := fun t => PortChanges _ t.port)
    (mid := fun u => PortChanges (s.port.newBudget (s.raster.field + 1)) u.port) .refl (fun a h => h.trans a.port)
    (fun _ => .refl) (fun u _ _ h => ?_) (fun u _ _ h => ?_) (fun u _ _ h => ?_)
  · exact h.trans (by simpa using announceField_changes (deriveField (expireWhere (fun _ => true) u)))
  · exact h.trans (by simpa using countListening_changes (expireWhere (fun _ => true) u))
  · simpa using h

/-- Outside RUNNING, once it is past, the port changes no more than its budget. -/
theorem takeSwitchPoint_port_outside {s : State} (h : (takeSwitchPoint s).loader.state ≠ .running) :
    (takeSwitchPoint s).port = s.port.newBudget (s.raster.field + 1) := by
  revert h
  refine takeSwitchPoint_keeps (inv := fun t => t.loader.state ≠ .running → t.port = _)
    (mid := fun u => u.loader.state ≠ .running → u.port = s.port.newBudget (s.raster.field + 1)) (fun _ => rfl)
    (fun {u v} a h hv => ?_) (fun _ _ => rfl) (fun u hu hr _ h => absurd (by simpa [hu] using hr) h) (fun u _ _ h ht => ?_)
    (fun u _ _ h ht => by simpa using h (by simpa using ht))
  · rw [a.loader] at hv
    rw [← h hv]
    cases a with
    | revert _ _ hr | refuse _ _ _ _ hr => exact absurd hr hv
    | applied _ e _ _ ho => exact (offer_applied_frame e u v ho).2.2.1
    | _ => simp
  · by_cases h8 : 8 ≤ u.loader.listeningCount + 1
    · simp [countListening_loader, h8] at ht
    · have hu : u.loader.state ≠ .running := by simpa [countListening_loader, h8] using ht
      simpa [countListening, Config.listeningPeriod, h8] using h hu

/-! ### Every act keeps it -/

theorem portSound_act {s t : State} (h : Act s t) (hl : LoaderSound s) (hs : PortSound s) : PortSound t := by
  rw [portSound_iff] at hs
  obtain ⟨sound, silent⟩ := hs
  have outside {u : State} (hp : u.port = s.port) (hr : s.loader.state ≠ .running) : PortSound u := by
    rw [portSound_iff, hp]
    exact ⟨sound, fun _ => silent hr⟩
  have running {u : State} (hu : u.loader.state = .running) (hp : PortChanges s.port u.port) : PortSound u :=
    portSound_iff.2 ⟨sound.changes hp, fun h => absurd hu h⟩
  have same {u : State} (hu : u.loader = s.loader) (hp : u.port = s.port) : PortSound u := by
    rw [portSound_iff, hu, hp]
    exact ⟨sound, silent⟩
  cases h with
  | reset => exact portSound_iff.2 ⟨Port.Sound.ofReset, fun _ => ⟨rfl, rfl, rfl⟩⟩
  | release _ _ ha => exact outside rfl (by simp [hl.1 ha])
  | releaseDefaults _ _ ha => exact outside (by simp [applyDefaults, readStraps]) (by simp [hl.1 ha])
  | load _ _ _ hl => exact outside (by simp) (by simp [hl])
  | enter => exact running (by simp) (by simpa using enterRunning_changes (s := s) rfl)
  | repeatStanding _ hr => exact running (by simpa using hr) (repeatStanding_changes rfl)
  | port p _ hp => exact portSound_iff.2 ⟨sound.act hp, fun h => (silent h).act sound hp⟩
  | attempt hb =>
    exact portSound_iff.2 ⟨beginAttempt_port_sound sound hb, fun h => absurd (State.mayBegin_iff.1 hb).1 (by simpa using h)⟩
  | refuse _ _ _ _ hr => exact running (by simpa using hr) (.single (.refuse _ rfl))
  | duplicate =>
    refine portSound_iff.2 ⟨by simpa using sound, fun h => ?_⟩
    rw [(hearDuplicate_frame s).2.1]
    exact silent fun hr => h (by simp [hearDuplicate_loader, hr])
  | switchPoint =>
    refine portSound_iff.2 ⟨(sound.newBudget _).changes (takeSwitchPoint_changes s), fun h => ?_⟩
    rw [takeSwitchPoint_port_outside h]
    exact silent fun hr => h (takeSwitchPoint_running hr)
  | _ => exact same (by simp) (by simp)

/-- On an IDLE line the port is ready for a start bit (R128). -/
def Port.Ready (p : Port) : Prop := p.lineState = .idle → p.rx = .ready

/-- A drop leaves the line and the receiver. -/
theorem Port.dropSpent_line (p : Port) : p.dropSpent.lineState = p.lineState ∧ p.dropSpent.rx = p.rx := by
  simp only [dropSpent]
  repeat' split
  all_goals exact ⟨rfl, rfl⟩

theorem Port.transmitError_line (p : Port) : p.transmitError.lineState = p.lineState ∧ p.transmitError.rx = p.rx := by
  simp only [transmitError]
  repeat' split
  · exact ⟨rfl, rfl⟩
  · exact dropSpent_line _
  · exact ⟨rfl, rfl⟩
  · exact dropSpent_line _

theorem Port.loseArbitration_line (p : Port) : p.loseArbitration.lineState = p.lineState ∧ p.loseArbitration.rx = p.rx := by
  unfold loseArbitration
  repeat' split
  all_goals exact ⟨rfl, rfl⟩

theorem Port.passByte0_line (p : Port) : p.passByte0.lineState = p.lineState ∧ p.passByte0.rx = p.rx := by
  unfold passByte0
  repeat' split
  all_goals exact ⟨rfl, rfl⟩

theorem Port.Ready.act {p q : Port} (hp : p.Ready) (h : PortAct p q) : q.Ready := by
  have same (hl : q.lineState = p.lineState) (hr : q.rx = p.rx) : q.Ready := fun h => hr.trans (hp (hl ▸ h))
  cases h with
  | lineIdle => exact fun _ => rfl
  | arrived => exact fun h => by cases h
  | lineBusy =>
    unfold lineBusy
    split
    · exact hp
    · exact fun h => by cases h
  | discard ending =>
    unfold discard
    split
    · exact hp
    · cases ending with
      | framingFault | overlong => exact fun h => by cases h
      | truncated | checked => exact fun _ => rfl
  | completeAttempt =>
    intro h
    cases ha : p.attempt with
    | none => simp_all [completeAttempt, Ready]
    | some a => cases hs : a.slot <;> simp [completeAttempt, ha, hs]
  | dropSpent => exact same p.dropSpent_line.1 p.dropSpent_line.2
  | transmitError => exact same p.transmitError_line.1 p.transmitError_line.2
  | loseArbitration => exact same p.loseArbitration_line.1 p.loseArbitration_line.2
  | passByte0 => exact same p.passByte0_line.1 p.passByte0_line.2

theorem Port.Ready.changes {p q : Port} (hp : p.Ready) (h : PortChanges p q) : q.Ready := by
  induction h with
  | refl => exact hp
  | tail _ h ih =>
    cases h with
    | pend => exact ih
    | refuse r =>
      unfold refuse
      split <;> exact ih

theorem beginAttempt_ready {s : State} (h : s.mayBegin = true) : (beginAttempt s).port.Ready := by
  obtain ⟨-, -, -, -, waits⟩ := State.mayBegin_iff.1 h
  cases hs : s.port.standingPending with
  | true => simp [beginAttempt_standing hs, Port.Ready]
  | false =>
    obtain ⟨r, rest, hr⟩ := List.exists_cons_of_ne_nil (waits.resolve_left (by simp [hs]))
    simp [beginAttempt_refusal hs hr, Port.Ready]

theorem lineSound_act {s t : State} (h : Act s t) (hs : LineSound s) : LineSound t := by
  have ready : s.port.Ready := hs
  have same {u : State} (hp : u.port = s.port) : u.port.Ready := hp ▸ ready
  change t.port.Ready
  cases h with
  | reset => exact fun h => by cases h
  | releaseDefaults => exact same (by simp [applyDefaults, readStraps])
  | enter => exact ready.changes (by simpa using enterRunning_changes (s := s) rfl)
  | repeatStanding => exact ready.changes (repeatStanding_changes rfl)
  | port p _ hp => exact ready.act hp
  | attempt hb => exact beginAttempt_ready hb
  | refuse => exact ready.changes (.single (.refuse _ rfl))
  | switchPoint => exact Port.Ready.changes (p := s.port.newBudget (s.raster.field + 1)) ready (takeSwitchPoint_changes s)
  | release => exact ready
  | _ => exact same (by simp)

end Sys2Proof.Machine

namespace Sys2Proof.Invariants

open Sys2Proof Sys2Proof.Machine Sys2Proof.Safety

/-- Settles O51: the port by what each event and each switch point makes of it, the line by the events that move it. -/
theorem stepsKeepThePortSound : Obligations.StepsKeepThePortSound :=
  ⟨keptByStep_of_act fun h ⟨hl, hp⟩ => ⟨loaderSound_act h hl, portSound_act h hl hp⟩, keptByStep_of_act lineSound_act⟩

end Sys2Proof.Invariants
end

section
/-! PROOF. The invariants of the Field Action Queue, the Peer View and the lever owner, each kept by every act. -/

namespace Sys2Proof.Machine

open Sys2Proof.Safety

/-! ## The Field Action Queue (R158, R159) -/

/-- A queue within its capacity, with no coalescing key twice. -/
def QueueWithin (q : List Entry) : Prop := q.length ≤ 16 ∧ (q.filterMap fun e => e.action.key).Nodup

theorem QueueWithin.subperm {q r : List Entry} (h : QueueWithin q) (hr : r.Subperm q) : QueueWithin r := by
  obtain ⟨l, hperm, hsub⟩ := hr
  have keys := (hsub.filterMap fun e => e.action.key).nodup h.2
  exact ⟨hperm.length_eq ▸ hsub.length_le.trans h.1, (hperm.filterMap fun e => e.action.key).nodup_iff.1 keys⟩

/-- An entry with the coalescing key of an action gives way to it. -/
theorem withoutKey_length_lt {q : List Entry} {a : Action} (h : ∃ e ∈ q, e.action.key ≠ none ∧ e.action.key = a.key) :
    (withoutKey q a).length < q.length := by
  obtain ⟨e, he, hk, ha⟩ := h
  rw [withoutKey_eq, List.length_filter_lt_length_iff_exists]
  exact ⟨e, he, by simp [← ha, hk]⟩

theorem QueueWithin.joined {q : List Entry} {a : Action} (h : QueueWithin q) (ht : takesAction q a = true) (sender : Station)
    (due : Nat) : QueueWithin (joined q a sender due) := by
  have sub : (withoutKey q a).Subperm q := by
    rw [withoutKey_eq]
    exact List.filter_sublist.subperm
  have kept := h.subperm sub
  refine ⟨?_, ?_⟩
  · rcases (takesAction_iff q a).1 ht with hk | hlt
    · have := withoutKey_length_lt hk
      have := h.1
      simp only [Machine.joined, List.length_append, List.length_singleton]
      omega
    · have := sub.length_le
      simp only [Machine.joined, List.length_append, List.length_singleton]
      omega
  · rw [Machine.joined, List.filterMap_append, List.nodup_append]
    refine ⟨kept.2, ?_, ?_⟩
    · cases hk : a.key <;> simp [hk]
    · intro k hk k' hk' heq
      subst heq
      have ha : a.key = some k := by
        cases h : a.key <;> simp_all
      obtain ⟨e, he, hek⟩ := List.mem_filterMap.1 hk
      rw [withoutKey_eq, List.mem_filter] at he
      simp [hek, ha] at he

theorem queueSound_iff {s : State} :
    QueueSound s ↔ QueueWithin s.intake.queue ∧ (s.loader.state ≠ .running → s.intake.queue = []) :=
  and_assoc.symm

@[simp] theorem applyConfiguration_intake (c : Configuration) (isDefault : Bool) (s : State) :
    (applyConfiguration c isDefault s).intake = s.intake.configure c := by
  simp [applyConfiguration]

@[simp] theorem enterRunning_queue (s : State) : (enterRunning s).intake.queue = s.intake.queue := by
  simp [enterRunning]

@[simp] theorem countListening_queue (s : State) : (countListening s).intake.queue = s.intake.queue := by
  simp only [countListening]
  split <;> simp

/-- A queue that the work of a field leaves holds no more than the queue it found. -/
theorem FieldAct.queue {s t : State} (h : FieldAct s t) : t.intake.queue.Subperm s.intake.queue := by
  have same (hq : t.intake.queue = s.intake.queue) : t.intake.queue.Subperm s.intake.queue := by rw [hq]
  cases h with
  | requeue q hq => exact hq
  | applied _ e _ _ ho => exact same (by rw [(offer_applied_frame e s t ho).2.2.2.2.2.2.2.2.2])
  | _ => exact same (by simp)

theorem takeSwitchPoint_queue (s : State) : (takeSwitchPoint s).intake.queue.Subperm s.intake.queue := by
  refine takeSwitchPoint_keeps (inv := fun t => t.intake.queue.Subperm _) (mid := fun u => u.intake.queue.Subperm s.intake.queue)
    (by simpa using List.Subperm.refl _) (fun a h => a.queue.trans h) ?_ ?_ ?_ ?_ <;> simp +contextual [List.Subperm.refl]

theorem queueSound_act {s t : State} (h : Act s t) (hl : LoaderSound s) (hs : QueueSound s) : QueueSound t := by
  rw [queueSound_iff] at hs ⊢
  obtain ⟨within, outside⟩ := hs
  have same (hq : t.intake.queue = s.intake.queue) (hr : t.loader.state ≠ .running → s.loader.state ≠ .running) :
      QueueWithin t.intake.queue ∧ (t.loader.state ≠ .running → t.intake.queue = []) := by
    rw [hq]
    exact ⟨within, fun h => outside (hr h)⟩
  cases h with
  | reset => exact ⟨⟨by simp [assertReset, State.reset, Intake.reset], by simp [assertReset, State.reset, Intake.reset]⟩, fun _ => rfl⟩
  | release => exact same rfl id
  | releaseDefaults _ _ ha => exact same (by simp [applyDefaults, readStraps, Intake.configure]) fun _ => by simp [hl.1 ha]
  | load _ _ _ hl => exact same (by simp [Intake.configure]) fun _ => by simp [hl]
  | enter => exact same (by simp) (by simp)
  | duplicate =>
    refine same (by simp) fun h hr => h ?_
    simp [hearDuplicate_loader, hr]
  | join _ _ hr ht => exact ⟨within.joined ht _ _, fun h => absurd hr h⟩
  | switchPoint =>
    refine ⟨within.subperm (takeSwitchPoint_queue s), fun h => ?_⟩
    have empty := outside fun hr => h (takeSwitchPoint_running hr)
    simpa [empty] using takeSwitchPoint_queue s
  | own => exact same (by simp [setOwner_intake]) (by simp)
  | delegate | standing => exact same (by simp [recordDelegate, recordStanding]) (by simp)
  | _ => exact same (by simp) (by simp)

/-! ## The Peer View's entries (R164, R165, R167) -/

/-- Entries in rising station order, none for the station's own number. -/
def EntriesListed (own : Station) (l : List PeerEntry) : Prop :=
  l.Pairwise (fun a b => a.station < b.station) ∧ ∀ e ∈ l, e.station ≠ own

theorem EntriesListed.filter {own : Station} {l : List PeerEntry} (h : EntriesListed own l) (f : PeerEntry → Bool) :
    EntriesListed own (l.filter f) :=
  ⟨h.1.filter f, fun e he => h.2 e (List.mem_filter.1 he).1⟩

theorem EntriesListed.grow {own : Station} {v : PeerView} (h : EntriesListed own v.entries) :
    EntriesListed own v.grow.entries := by
  refine ⟨?_, fun e he => ?_⟩
  · simpa [PeerView.grow, List.pairwise_map] using h.1
  · obtain ⟨x, hx, rfl⟩ := List.mem_map.1 he
    exact h.2 x hx

/-- Entries that are listed and live. -/
def EntriesLive (own : Station) (l : List PeerEntry) : Prop := EntriesListed own l ∧ ∀ e ∈ l, e.age < 24

/-- Once every spent entry has gone, the rest are live (R167). -/
theorem EntriesListed.live {own : Station} {l : List PeerEntry} (h : EntriesListed own l) :
    EntriesLive own (l.filter fun e => !(e.spent && true)) := by
  refine ⟨h.filter _, fun e he => ?_⟩
  have : e.spent = false := by simpa using (List.mem_filter.1 he).2
  exact Nat.not_le.1 (of_decide_eq_false this)

theorem EntriesLive.put {own : Station} {v : PeerView} {e : PeerEntry} (h : EntriesLive own v.entries) (hs : e.station ≠ own)
    (ha : e.age < 24) : EntriesLive own (v.put e).entries := by
  refine ⟨⟨pairwise_putEntry e _ h.1.1, fun x hx => ?_⟩, fun x hx => ?_⟩
  · rcases mem_putEntry hx with rfl | hx
    · exact hs
    · exact h.1.2 x hx
  · rcases mem_putEntry hx with rfl | hx
    · exact ha
    · exact h.2 x hx

theorem EntriesLive.refresh {own p : Station} {v : PeerView} (h : EntriesLive own v.entries) (hp : p ≠ own) :
    EntriesLive own (v.refresh p).entries := by
  unfold PeerView.refresh
  split <;> exact h.put hp (Nat.zero_lt_succ _)

theorem peersSound_iff {s : State} : PeersSound s ↔
    EntriesLive s.loader.station s.peers.entries ∧ (s.loader.inputAsserted = true → s.peers.entries = []) := by
  constructor
  · rintro ⟨order, each, empty⟩
    exact ⟨⟨⟨order, fun e he => (each e he).1⟩, fun e he => (each e he).2⟩, empty⟩
  · rintro ⟨⟨⟨order, own⟩, live⟩, empty⟩
    exact ⟨order, fun e he => ⟨own e he, live e he⟩, empty⟩

@[simp] theorem expireWhere_peers (named : PeerEntry → Bool) (s : State) :
    (expireWhere named s).peers = { s.peers with entries := s.peers.entries.filter fun e => !(e.spent && named e) } := by
  simp [expireWhere]

@[simp] theorem pendStanding_peers (s : State) : (pendStanding s).peers = { s.peers with repeatCount := 0 } := rfl

@[simp] theorem noteAnnounced_peers (s : State) : (noteAnnounced s).peers = { s.peers with announced := announcedOf s } := rfl

@[simp] theorem enterRunning_peers (s : State) : (enterRunning s).peers = { s.peers with repeatCount := 0 } := by
  simp [enterRunning]

/-- A STANDING made pending by its repeat returns the repeat count to 0 (R177). -/
theorem repeatStanding_peers (s : State) : (repeatStanding s).peers =
    { s.peers with repeatCount := if 8 ≤ s.peers.repeatCount then 0 else s.peers.repeatCount } := by
  unfold repeatStanding
  by_cases h : 8 ≤ s.peers.repeatCount <;> simp [Config.repeatPeriod, h]

/-- The comparison of R177 moves the repeat count alone. -/
theorem announceField_peers (s : State) : (announceField s).peers =
    { s.peers with
      repeatCount := if announcedOf s ≠ s.peers.announced ∨ 7 ≤ s.peers.repeatCount then 0 else s.peers.repeatCount + 1 } := by
  unfold announceField
  by_cases h : announcedOf s = s.peers.announced
  · by_cases h7 : 7 ≤ s.peers.repeatCount <;> simp [h, h7, repeatStanding_peers]
  · simp [h]

/-- The entry to RUNNING returns the repeat count to 0 (R177). -/
theorem countListening_peers (s : State) : (countListening s).peers =
    { s.peers with repeatCount := if 8 ≤ s.loader.listeningCount + 1 then 0 else s.peers.repeatCount } := by
  by_cases h : 8 ≤ s.loader.listeningCount + 1 <;> simp [countListening, Config.listeningPeriod, h]

theorem EntriesListed.fieldAct {s t : State} (h : FieldAct s t) (hs : EntriesListed s.loader.station s.peers.entries) :
    EntriesListed t.loader.station t.peers.entries := by
  rw [h.loader]
  have same (hp : t.peers.entries = s.peers.entries) : EntriesListed s.loader.station t.peers.entries := hp ▸ hs
  cases h with
  | grow => exact hs.grow
  | expire named => simpa using hs.filter fun e => !(e.spent && named e)
  | applied _ e _ _ ho => exact same (by rw [(offer_applied_frame e s t ho).2.2.2.1])
  | quiet =>
    refine same ?_
    simp only [State.setPeers_peers, PeerView.countQuiet]
    split <;> rfl
  | _ => exact same (by simp)

theorem peersSound_act {s t : State} (h : Act s t) (hs : PeersSound s) : PeersSound t := by
  rw [peersSound_iff] at hs ⊢
  obtain ⟨live, empty⟩ := hs
  have same (hp : t.peers.entries = s.peers.entries) (hstation : t.loader.station = s.loader.station)
      (ha : t.loader.inputAsserted = s.loader.inputAsserted) :
      EntriesLive t.loader.station t.peers.entries ∧ (t.loader.inputAsserted = true → t.peers.entries = []) := by
    rw [hp, hstation, ha]
    exact ⟨live, empty⟩
  have none {own : Station} : EntriesLive own [] := ⟨⟨.nil, by simp⟩, by simp⟩
  have heard {u : State} (hu : EntriesLive s.loader.station u.peers.entries) (hl : u.loader = s.loader)
      (hr : Released s) : EntriesLive u.loader.station u.peers.entries ∧ (u.loader.inputAsserted = true → u.peers.entries = []) := by
    rw [hl]
    exact ⟨hu, fun ha => absurd hr (by simp [Released, ha])⟩
  cases h with
  | reset => exact ⟨none, fun _ => rfl⟩
  | release _ _ ha => simpa [readStraps, empty ha] using none
  | releaseDefaults _ _ ha => simpa [applyDefaults, readStraps, empty ha, Loader.finish] using none
  | load => exact same (by simp) (by simp [Loader.finish]) (by simp [Loader.finish])
  | expire named hr =>
    refine heard (by simpa using ⟨live.1.filter _, fun e he => live.2 e (List.mem_filter.1 he).1⟩) (by simp) hr
  | enter => exact same (by simp) (by simp) (by simp)
  | repeatStanding => exact same (by simp [repeatStanding_peers]) (by simp) (by simp)
  | duplicate =>
    refine same ?_ (by simp [hearDuplicate_loader]) (by simp [hearDuplicate_loader])
    unfold hearDuplicate
    split <;> simp
  | delegate sender d hr hne =>
    exact heard (by simpa [recordDelegate, PeerView.hearDelegate] using live.put hne (Nat.zero_lt_succ _)) (by simp) hr
  | standing sender m hr hne =>
    exact heard (by simpa [recordStanding, PeerView.hearStanding] using live.put hne (Nat.zero_lt_succ _)) (by simp) hr
  | heard sender hr hne => exact heard (by simpa [recordHeard] using live.refresh hne) (by simp) hr
  | switchPoint hr =>
    have closed {u : State} (hu : EntriesListed u.loader.station u.peers.entries) :
        EntriesLive u.loader.station (u.peers.entries.filter fun e => !(e.spent && true)) := hu.live
    have released {u : State} (hu : u.loader = s.loader) : u.loader.inputAsserted = false := by rw [hu]; exact hr
    refine takeSwitchPoint_keeps
      (inv := fun t => EntriesLive t.loader.station t.peers.entries ∧ (t.loader.inputAsserted = true → t.peers.entries = []))
      (mid := fun u => EntriesListed u.loader.station u.peers.entries) (by simpa using live.1) (fun a h => h.fieldAct a)
      (fun _ => by simpa using ⟨live, empty⟩) (fun u hu _ h => ?_) (fun u hu _ h => ?_) (fun u hu _ h => ?_)
    · simpa [announceField_peers, released hu] using closed h
    · simpa [countListening_peers, countListening_loader, released hu] using closed h
    · simpa [released hu] using closed h
  | clearDuplicate => exact same rfl rfl rfl
  | _ => exact same (by simp) (by simp) (by simp)

/-! ## The Peer View's counts (R168, R177) -/

/-- A quiet count that has reached 24 has cleared the flag (R168). -/
theorem PeerView.countQuiet_quiet {v : PeerView} (h : v.quiet ≤ 24 ∧ (v.duplicate = true → v.quiet < 24)) :
    v.countQuiet.quiet ≤ 24 ∧ (v.countQuiet.duplicate = true → v.countQuiet.quiet < 24) := by
  cases hd : v.duplicate with
  | false => simpa [countQuiet, hd] using h.1
  | true =>
    have := h.2 hd
    have limit : Config.quietLimit = 24 := rfl
    simp only [countQuiet, hd, if_true, limit]
    exact ⟨by omega, of_decide_eq_true⟩

theorem countsSound_of_peers {s t : State} (h : CountsSound s) (hr : t.peers.repeatCount = s.peers.repeatCount)
    (hq : t.peers.quiet = s.peers.quiet) (hd : t.peers.duplicate = s.peers.duplicate)
    (hl : t.loader.state ≠ .running → s.loader.state ≠ .running) : CountsSound t := by
  obtain ⟨repeats, quiet, duplicate, outside⟩ := h
  rw [CountsSound, hr, hq, hd]
  exact ⟨repeats, quiet, duplicate, fun h => outside (hl h)⟩

/-- In RUNNING a repeat count below 8 is enough. -/
theorem countsSound_of_running {s t : State} (h : CountsSound s) (hr : t.peers.repeatCount < 8)
    (hq : t.peers.quiet = s.peers.quiet) (hd : t.peers.duplicate = s.peers.duplicate) (hl : t.loader.state = .running) :
    CountsSound t := by
  obtain ⟨-, quiet, duplicate, -⟩ := h
  rw [CountsSound, hq, hd]
  exact ⟨hr, quiet, duplicate, fun h => absurd hl h⟩

theorem countsSound_fieldAct {s t : State} (hs : CountsSound s) (h : FieldAct s t) : CountsSound t := by
  have state : t.loader.state ≠ .running → s.loader.state ≠ .running := fun ht => h.loader ▸ ht
  have same (hp : t.peers = s.peers) : CountsSound t := countsSound_of_peers hs (by rw [hp]) (by rw [hp]) (by rw [hp]) state
  cases h with
  | grow => exact countsSound_of_peers hs rfl rfl rfl state
  | expire => exact countsSound_of_peers hs (by simp) (by simp) (by simp) state
  | applied _ e _ _ ho => exact same (by rw [(offer_applied_frame e s t ho).2.2.2.1])
  | quiet =>
    obtain ⟨repeats, quiet, duplicate, outside⟩ := hs
    have counted := PeerView.countQuiet_quiet ⟨quiet, duplicate⟩
    have repeatCount : s.peers.countQuiet.repeatCount = s.peers.repeatCount := by
      unfold PeerView.countQuiet
      split <;> rfl
    refine ⟨repeatCount ▸ repeats, counted.1, counted.2, fun h => ?_⟩
    have rest := outside h
    simpa [PeerView.countQuiet, rest.2] using rest
  | _ => exact same (by simp)

theorem countsSound_act {s t : State} (h : Act s t) (hl : LoaderSound s) (hs : CountsSound s) : CountsSound t := by
  have same (hp : t.peers = s.peers) (hr : t.loader.state ≠ .running → s.loader.state ≠ .running) : CountsSound t :=
    countsSound_of_peers hs (by rw [hp]) (by rw [hp]) (by rw [hp]) hr
  cases h with
  | reset => exact ⟨by simp [assertReset, State.reset, PeerView.reset], by simp [assertReset, State.reset, PeerView.reset],
      by simp [assertReset, State.reset, PeerView.reset], fun _ => ⟨rfl, rfl⟩⟩
  | releaseDefaults _ _ ha => exact same (by simp [applyDefaults, readStraps]) fun _ => by simp [hl.1 ha]
  | load _ _ _ hl => exact same (by simp) fun _ => by simp [hl]
  | enter => exact countsSound_of_running hs (by simp) (by simp) (by simp) (by simp)
  | expire => exact countsSound_of_peers hs (by simp) (by simp) (by simp) (by simp)
  | clearDuplicate =>
    obtain ⟨repeats, quiet, -, outside⟩ := hs
    exact ⟨repeats, quiet, by simp, fun h => ⟨(outside h).1, rfl⟩⟩
  | repeatStanding _ hr =>
    refine countsSound_of_running hs ?_ (by simp [repeatStanding_peers]) (by simp [repeatStanding_peers]) (by simpa using hr)
    have := hs.1
    simp only [repeatStanding_peers]
    split <;> omega
  | duplicate =>
    obtain ⟨repeats, quiet, duplicate, outside⟩ := hs
    unfold hearDuplicate
    split
    · exact ⟨repeats, quiet, duplicate, outside⟩
    · next h => exact ⟨repeats, quiet, duplicate, fun _ => outside (by simp [h])⟩
    · next h => exact ⟨repeats, by simp, by simp, fun hr => absurd h (by simpa using hr)⟩
    · exact ⟨repeats, quiet, duplicate, outside⟩
  | delegate | standing =>
    exact countsSound_of_peers hs (by simp [recordDelegate, recordStanding, PeerView.hearDelegate, PeerView.hearStanding, PeerView.put])
      (by simp [recordDelegate, recordStanding, PeerView.hearDelegate, PeerView.hearStanding, PeerView.put])
      (by simp [recordDelegate, recordStanding, PeerView.hearDelegate, PeerView.hearStanding, PeerView.put])
      (by simp [recordDelegate, recordStanding])
  | heard sender =>
    have kept : ∀ v : PeerView, (v.refresh sender).repeatCount = v.repeatCount ∧ (v.refresh sender).quiet = v.quiet ∧
        (v.refresh sender).duplicate = v.duplicate := fun v => by
      unfold PeerView.refresh
      split <;> exact ⟨rfl, rfl, rfl⟩
    obtain ⟨repeats, quiet, duplicate⟩ := kept s.peers
    exact countsSound_of_peers hs repeats quiet duplicate id
  | switchPoint =>
    have expired {u : State} (h : CountsSound u) : CountsSound (expireWhere (fun _ => true) u) :=
      countsSound_fieldAct h (.expire u _)
    refine takeSwitchPoint_keeps (inv := CountsSound) (mid := CountsSound) (countsSound_of_peers hs rfl rfl rfl id)
      (fun a h => countsSound_fieldAct h a) (fun h => countsSound_of_peers hs rfl rfl rfl (by simp [h]))
      (fun u hu hr h => ?_) (fun u hu _ h => ?_)
      (fun u _ _ h => countsSound_of_peers (expired h) (by simp) (by simp) (by simp) (by simp))
    · refine countsSound_of_running (expired h) ?_ (by simp [announceField_peers]) (by simp [announceField_peers]) (by simpa [hu] using hr)
      have := h.1
      simp only [noteAnnounced_peers, announceField_peers, deriveField_frame, expireWhere_peers]
      split <;> omega
    · by_cases h8 : 8 ≤ u.loader.listeningCount + 1
      · exact countsSound_of_running (expired h) (by simp [countListening_peers, h8]) (by simp [countListening_peers])
          (by simp [countListening_peers]) (by simp [countListening_loader, h8])
      · exact countsSound_of_peers (expired h) (by simp [countListening_peers, h8]) (by simp [countListening_peers])
          (by simp [countListening_peers]) (by simp [countListening_loader, h8])
  | release => exact same rfl id
  | _ => exact same (by simp) (by simp)

/-! ## The lever owner (R154 to R156, R163) -/

/-- Whom a state records delegations from, its own number and its permission table decide who may own the lever. -/
theorem State.mayOwn_congr {s t : State} (hd : ∀ p, t.peers.delegation p = s.peers.delegation p)
    (hs : t.loader.station = s.loader.station) (hp : t.intake.permissions = s.intake.permissions) : t.mayOwn = s.mayOwn := by
  funext p
  simp only [State.mayOwn, State.delegatedHere, Intake.permission, hd, hs, hp]

theorem PeerView.delegation_congr {v w : PeerView} (h : w.entries = v.entries) (p : Station) : w.delegation p = v.delegation p := by
  simp only [PeerView.delegation, PeerView.find, h]

/-- Growing older changes no delegation. -/
theorem PeerView.delegation_grow (v : PeerView) (p : Station) : v.grow.delegation p = v.delegation p := by
  simp only [PeerView.delegation, PeerView.find, PeerView.grow, List.find?_map, Function.comp_def]
  generalize v.entries.find? (fun e => e.station == p) = found
  rcases found with _ | ⟨_, _, _ | _⟩ <;> rfl

/-- The owner stands, and so does all that decides who may own the lever. -/
structure SameOwnership (s t : State) : Prop where
  state : t.loader.state = s.loader.state
  station : t.loader.station = s.loader.station
  delegation : ∀ p, t.peers.delegation p = s.peers.delegation p
  permissions : t.intake.permissions = s.intake.permissions
  policy : t.intake.leverPolicy = s.intake.leverPolicy
  owner : t.intake.leverOwner = s.intake.leverOwner

theorem SameOwnership.mayOwn {s t : State} (h : SameOwnership s t) : t.mayOwn = s.mayOwn :=
  State.mayOwn_congr h.delegation h.station h.permissions

theorem ownerSound_of_same {s t : State} (hs : OwnerSound s) (h : SameOwnership s t) : OwnerSound t := by
  obtain ⟨mayOwn, fixed, outside⟩ := hs
  simp only [OwnerSound, State.lowestOwner, h.mayOwn, h.state, h.policy, h.owner]
  exact ⟨mayOwn, fixed, outside⟩

theorem ownerSound_of_none {s : State} (h : s.intake.leverOwner = none) (hr : s.loader.state ≠ .running) : OwnerSound s :=
  ⟨fun p hp => by simp [h] at hp, fun h => absurd h hr, fun _ => h⟩

/-- A state is the same as another but for the owner, if the owner is worked out again from it. -/
theorem setOwner_mayOwn (o : Option Station) (s : State) : (setOwner o s).mayOwn = s.mayOwn :=
  State.mayOwn_congr (by simp) (by simp) (by simp [setOwner_intake])

/-- Whatever has changed, the owner is right once it has been worked out again. -/
theorem reviseOwner_sound {s : State} (h : s.loader.state ≠ .running → s.intake.leverOwner = none) : OwnerSound (reviseOwner s) := by
  by_cases hr : s.loader.state = .running
  · cases hp : s.intake.leverPolicy with
    | fixed =>
      rw [reviseOwner_fixed s hr hp]
      refine ⟨fun p ho => ?_, fun _ _ => ?_, fun h => absurd hr (by simpa using h)⟩
      · rw [setOwner_leverOwner] at ho
        rw [setOwner_mayOwn]
        exact List.find?_some ho
      · simp [State.lowestOwner, setOwner_mayOwn]
    | latest =>
      rw [reviseOwner_latest s hr hp]
      refine ⟨fun p ho => ?_, fun _ hf => ?_, fun h => absurd hr (by simpa using h)⟩
      · rw [setOwner_leverOwner, Option.filter_eq_some_iff] at ho
        rw [setOwner_mayOwn]
        exact ho.2
      · simp [setOwner_intake, hp] at hf
  · rw [reviseOwner_outside s hr]
    exact ownerSound_of_none (h hr) hr

/-- An owner that is right stands when it is worked out again. -/
theorem reviseOwner_of_sound {s : State} (h : OwnerSound s) : reviseOwner s = s := by
  obtain ⟨mayOwn, fixed, -⟩ := h
  by_cases hr : s.loader.state = .running
  · cases hp : s.intake.leverPolicy with
    | fixed => rw [reviseOwner_fixed s hr hp, ← fixed hr hp]; simp [setOwner]
    | latest =>
      have stands : (s.intake.leverOwner.filter fun p => s.mayOwn p) = s.intake.leverOwner := by
        cases ho : s.intake.leverOwner with
        | none => rfl
        | some p => simp [Option.filter, mayOwn p ho]
      rw [reviseOwner_latest s hr hp, stands]
      simp [setOwner]
  · exact reviseOwner_outside s hr

theorem SameOwnership.of_eq {s t : State} (hl : t.loader = s.loader) (hp : t.peers.entries = s.peers.entries)
    (hi : t.intake = s.intake) : SameOwnership s t :=
  ⟨by rw [hl], by rw [hl], PeerView.delegation_congr hp, by rw [hi], by rw [hi], by rw [hi]⟩

theorem ownerSound_fieldAct {s t : State} (hs : OwnerSound s) (h : FieldAct s t) : OwnerSound t := by
  have loader := h.loader
  have same (hp : t.peers.entries = s.peers.entries) (hi : t.intake = s.intake) : OwnerSound t :=
    ownerSound_of_same hs (.of_eq loader hp hi)
  cases h with
  | grow => exact ownerSound_of_same hs ⟨rfl, rfl, s.peers.delegation_grow, rfl, rfl, rfl⟩
  | expire => exact reviseOwner_sound fun h => hs.2.2 h
  | applied _ e _ _ ho =>
    have frame := offer_applied_frame e s t ho
    exact same (by simp [frame]) (by simp [frame])
  | requeue => exact ownerSound_of_same hs ⟨rfl, rfl, fun _ => rfl, rfl, rfl, rfl⟩
  | quiet =>
    refine same ?_ rfl
    simp only [State.setPeers_peers, PeerView.countQuiet]
    split <;> rfl
  | _ => exact same (by simp) (by simp)

theorem enterRunning_sound (s : State) : OwnerSound (enterRunning s) := reviseOwner_sound fun h => absurd rfl h

theorem ownerSound_act {s t : State} (h : Act s t) (hl : LoaderSound s) (hs : OwnerSound s) : OwnerSound t := by
  have same (hl : t.loader = s.loader) (hp : t.peers.entries = s.peers.entries) (hi : t.intake = s.intake) : OwnerSound t :=
    ownerSound_of_same hs (.of_eq hl hp hi)
  have derived {u v : State} (hu : OwnerSound u) (hl : v.loader = u.loader) (hp : v.peers.entries = u.peers.entries)
      (hi : v.intake = u.intake) : OwnerSound v := ownerSound_of_same hu (.of_eq hl hp hi)
  cases h with
  | reset => exact ownerSound_of_none rfl (by simp [assertReset, Loader.reset])
  | release _ _ ha =>
    have loading := hl.1 ha
    exact ownerSound_of_none (hs.2.2 (by simp [loading])) (by simp [readStraps, loading])
  | releaseDefaults _ _ ha =>
    exact ownerSound_of_none (by simpa [applyDefaults, readStraps, Intake.configure] using hs.2.2 (by simp [hl.1 ha]))
      (by simp [applyDefaults, Loader.finish])
  | load _ _ _ hl =>
    exact ownerSound_of_none (by simpa [Intake.configure] using hs.2.2 (by simp [hl])) (by simp [Loader.finish])
  | enter => exact derived (enterRunning_sound s) (by simp) (by simp) (by simp)
  | expire | delegate | standing => exact reviseOwner_sound fun h => hs.2.2 h
  | duplicate =>
    unfold hearDuplicate
    split
    · exact hs
    · next h => exact ownerSound_of_none (hs.2.2 (by simp [h])) (by simp)
    · exact ownerSound_of_same hs (.of_eq rfl rfl rfl)
    · exact hs
  | heard sender => exact ownerSound_of_same hs ⟨rfl, rfl, s.peers.delegation_refresh sender, rfl, rfl, rfl⟩
  | own p hr hp ho =>
    refine ⟨fun q hq => ?_, fun _ hf => ?_, fun h => absurd hr (by simpa using h)⟩
    · rw [setOwner_leverOwner] at hq
      rw [setOwner_mayOwn]
      exact Option.some.inj hq ▸ ho
    · simp [setOwner_intake, hp] at hf
  | join => exact ownerSound_of_same hs ⟨rfl, rfl, fun _ => rfl, rfl, rfl, rfl⟩
  | repeatStanding => exact same (by simp) (by simp [repeatStanding_peers]) (by simp)
  | switchPoint =>
    have expired {u : State} (h : OwnerSound u) : OwnerSound (expireWhere (fun _ => true) u) :=
      ownerSound_fieldAct h (.expire u _)
    refine takeSwitchPoint_keeps (inv := OwnerSound) (mid := OwnerSound) (derived hs rfl rfl rfl) (fun a h => ownerSound_fieldAct h a)
      (fun _ => ownerSound_of_same hs ⟨rfl, rfl, fun _ => rfl, rfl, rfl, rfl⟩)
      (fun u _ _ h => derived (expired h) (by simp) (by simp [announceField_peers]) (by simp)) (fun u _ _ h => ?_)
      (fun u _ _ h => derived (expired h) (by simp) (by simp) (by simp))
    have counted : OwnerSound (countListening (expireWhere (fun _ => true) u)) := by
      simp only [countListening]
      split
      · exact enterRunning_sound _
      · exact ownerSound_of_same (expired h) ⟨rfl, rfl, fun _ => rfl, rfl, rfl, rfl⟩
    exact derived counted (by simp) (by simp) (by simp)
  | _ => exact same (by simp) (by simp) (by simp)

end Sys2Proof.Machine

namespace Sys2Proof.Invariants

open Sys2Proof Sys2Proof.Machine Sys2Proof.Safety

/-- Settles O52: what joins the queue finds room or takes the place of its key, and a switch point leaves no more than it found. -/
theorem stepsKeepTheQueueSound : Obligations.StepsKeepTheQueueSound :=
  keptByStep_of_act fun h ⟨hl, hq⟩ => ⟨loaderSound_act h hl, queueSound_act h hl hq⟩

/-- Settles O53. -/
theorem stepsKeepThePeerViewSound : Obligations.StepsKeepThePeerViewSound :=
  keptByStep_of_act fun h ⟨hl, hp, hc⟩ => ⟨loaderSound_act h hl, peersSound_act h hp, countsSound_act h hl hc⟩

/-- Settles O54: the owner is worked out again wherever the panels, the policy or the station state change. -/
theorem stepsKeepTheLeverOwnerSound : Obligations.StepsKeepTheLeverOwnerSound :=
  keptByStep_of_act fun h ⟨hl, ho⟩ => ⟨loaderSound_act h hl, ownerSound_act h hl ho⟩

end Sys2Proof.Invariants
end

section
/-! PROOF. The configuration a block or the defaults can put in force, and the generator's invariants: where the counters stand, and the
reference record. -/

namespace Sys2Proof.Machine

open Sys2Proof.Safety

/-! ## Configured values lie in their ranges (R183, R184) -/

theorem clampNat_range {v lo hi : Nat} (h : lo ≤ hi) : lo ≤ clampNat v lo hi ∧ clampNat v lo hi ≤ hi := by
  unfold clampNat
  repeat' split
  all_goals omega

/-- A pair of limits as R183 judges it is in order and in the range of a sample when the pair that replaces it is. -/
theorem limitPair_range {lo hi dlo dhi : Nat} (h : dlo ≤ dhi ∧ dhi ≤ 1019) :
    (limitPair lo hi dlo dhi).1 ≤ (limitPair lo hi dlo dhi).2 ∧ (limitPair lo hi dlo dhi).2 ≤ 1019 := by
  unfold limitPair
  split
  · next hp => exact ⟨hp.2.2, hp.2.1⟩
  · exact h

/-- A key rate lies in 1..999 (R7). -/
def KeySettings.RateSound (k : KeySettings) : Prop := 1 ≤ k.rate ∧ k.rate ≤ 999

theorem KeySettings.RateSound.applyKeyset {k : KeySettings} {f : KeysetFields} (hk : k.RateSound)
    (hf : ∀ r, f.rate = some r → 1 ≤ r ∧ r ≤ 999) : (applyKeyset f k).RateSound := by
  unfold RateSound Machine.applyKeyset
  cases hr : f.rate with
  | none => exact hk
  | some r => exact hf r hr

theorem KeySettings.RateSound.ofReset : KeySettings.reset.RateSound := by simp [RateSound, KeySettings.reset]

/-- The limits in order and in the range of a sample (R81). -/
def Limits.Sound (l : Limits) : Prop := (l.yLo ≤ l.yHi ∧ l.yHi ≤ 1019) ∧ (l.cLo ≤ l.cHi ∧ l.cHi ≤ 1019)

/-- The values of a configuration lie in their ranges. -/
structure Configuration.InRange (c : Configuration) : Prop where
  switchLine : 1 ≤ c.switchLine ∧ c.switchLine ≤ 20
  guardLines : 1 ≤ c.guardLines ∧ c.guardLines ≤ 64
  offsetLines : c.offsetLines ≤ 63
  offsetSamples : c.offsetSamples < lineSamples c.format
  window : 1 ≤ c.window
  threshold : 1 ≤ c.threshold
  limits : c.limits.Sound
  keys1 : c.keys1.RateSound
  keys2 : c.keys2.RateSound
  keys3 : c.keys3.RateSound
  keys4 : c.keys4.RateSound

theorem lineSamples_pos (f : Format) : 0 < lineSamples f := by cases f <;> decide

theorem default_inRange (station : Station) : (Configuration.default station).InRange where
  switchLine := by simp [Configuration.default]
  guardLines := by simp [Configuration.default]
  offsetLines := by simp [Configuration.default]
  offsetSamples := by simp [Configuration.default, lineSamples]
  window := by simp [Configuration.default]
  threshold := by simp [Configuration.default]
  limits := by simp [Configuration.default, Limits.Sound, Limits.reset]
  keys1 := .ofReset
  keys2 := .ofReset
  keys3 := .ofReset
  keys4 := .ofReset

theorem readConfiguration_inRange (station : Station) (content : List Byte) : (readConfiguration station content).InRange := by
  have keys {raw : RawKeyset} : (applyKeyset (clampKeyset raw) .reset).RateSound :=
    KeySettings.RateSound.ofReset.applyKeyset fun _ => clampKeyset_rate_range
  exact {
    switchLine := clampNat_range (by decide)
    guardLines := clampNat_range (by decide)
    offsetLines := Nat.min_le_right ..
    offsetSamples := Nat.lt_of_le_of_lt (Nat.min_le_right ..) (Nat.sub_lt (lineSamples_pos _) Nat.one_pos)
    window := (clampNat_range (by decide)).1
    threshold := Nat.le_max_right ..
    limits := ⟨limitPair_range (by decide), limitPair_range (by decide)⟩
    keys1 := keys
    keys2 := keys
    keys3 := keys
    keys4 := keys }

theorem Loadable.inRange {station : Station} {c : Configuration} (h : Loadable station c) : c.InRange := by
  rcases h with rfl | ⟨content, rfl⟩
  · exact default_inRange station
  · exact readConfiguration_inRange station content

/-! ## The counters (R113, R114) -/

/-- The counters on a line and a sample of the format, and the configured places in their ranges. -/
structure Raster.Placed (r : Raster) : Prop where
  line : 1 ≤ r.line ∧ r.line ≤ frameLines r.format
  sample : r.sample < lineSamples r.format
  switchLine : 1 ≤ r.switchLine ∧ r.switchLine ≤ 20
  guardLines : 1 ≤ r.guardLines ∧ r.guardLines ≤ 64
  offsetLines : r.offsetLines ≤ 63
  offsetSamples : r.offsetSamples < lineSamples r.format

theorem countersSound_iff {s : State} : CountersSound s ↔ s.raster.Placed :=
  ⟨fun ⟨l, x, sw, g, ol, os⟩ => ⟨l, x, sw, g, ol, os⟩, fun ⟨l, x, sw, g, ol, os⟩ => ⟨l, x, sw, g, ol, os⟩⟩

/-- Counters that move to a place of the format leave the configured places. -/
theorem Raster.Placed.move {r : Raster} (h : r.Placed) {l x : Nat} (hl : 1 ≤ l ∧ l ≤ frameLines r.format)
    (hx : x < lineSamples r.format) : ({ r with line := l, sample := x } : Raster).Placed :=
  ⟨hl, hx, h.switchLine, h.guardLines, h.offsetLines, h.offsetSamples⟩

theorem wrapLine_range {f : Format} {n : Nat} (h1 : 1 ≤ n) (h2 : n ≤ 2 * frameLines f) :
    1 ≤ wrapLine f n ∧ wrapLine f n ≤ frameLines f := by
  unfold wrapLine
  split <;> omega

theorem frameLines_ge (f : Format) : 750 ≤ frameLines f := by cases f <;> decide

theorem linesAhead_lt (f : Format) (a b : Nat) : linesAhead f a b < frameLines f :=
  Nat.mod_lt _ (Nat.lt_of_lt_of_le (by decide) (frameLines_ge f))

theorem nearestAhead_le (f : Format) (a : Nat) (ls : List Nat) : nearestAhead f a ls ≤ frameLines f := by
  rcases nearestAhead_eq f a ls with h | ⟨l, -, h⟩
  · exact h.le
  · exact h ▸ (linesAhead_lt f a l).le

/-- The first line of a field, under an offset of at most 63 lines, is a line of the frame (R116). -/
theorem expectedLine_range (f : Format) (fi : FieldId) {n : Nat} (hn : n ≤ 63) :
    1 ≤ expectedLine f fi n ∧ expectedLine f fi n ≤ frameLines f := by
  have lines := frameLines_ge f
  refine wrapLine_range ?_ ?_ <;> cases fi <;> simp only [firstLine] <;> omega

theorem Raster.Placed.nextLine {r : Raster} (h : r.Placed) : r.nextLine.Placed := by
  have := h.line
  refine h.move ?_ (lineSamples_pos _)
  split <;> omega

theorem Raster.Placed.runTo {r : Raster} (h : r.Placed) (ls : List Nat) : (r.runTo ls).Placed := by
  have le := nearestAhead_le r.format r.line ls
  have line := h.line
  unfold Raster.runTo
  split
  · exact h
  · next k hk =>
    rw [hk] at le
    exact h.move (wrapLine_range (by omega) (by omega)) (lineSamples_pos _)

/-- Leaving lock moves nothing. -/
theorem Raster.leaveLock_place (r : Raster) : r.leaveLock =
    { r with refState := r.leaveLock.refState, missCount := r.leaveLock.missCount, rate := r.leaveLock.rate } := by
  unfold leaveLock
  split <;> rfl

theorem Raster.Placed.of_reference {r : Raster} (h : r.Placed) {st : RefState} {m : Nat} {seen : Bool} {rate : SampleRate} :
    ({ r with refState := st, missCount := m, startSeen := seen, rate := rate } : Raster).Placed :=
  ⟨h.line, h.sample, h.switchLine, h.guardLines, h.offsetLines, h.offsetSamples⟩

theorem Raster.Placed.leaveLock {r : Raster} (h : r.Placed) : r.leaveLock.Placed := by
  rw [r.leaveLock_place]
  exact h.of_reference

theorem Raster.Placed.checkMiss {r : Raster} (h : r.Placed) : r.checkMiss.Placed :=
  Raster.Placed.leaveLock ⟨h.line, h.sample, h.switchLine, h.guardLines, h.offsetLines, h.offsetSamples⟩

theorem Raster.Placed.runToMissCheck {r : Raster} (h : r.Placed) : r.runToMissCheck.Placed := by
  have ran := h.runTo r.missCheckLines
  exact ran.move ran.line (Nat.max_lt.2 ⟨ran.sample, ran.offsetSamples⟩)

theorem Raster.Placed.reload {r : Raster} (h : r.Placed) (fi : FieldId) (dev : Int) :
    (r.reload fi dev).Placed :=
  ⟨expectedLine_range r.format fi h.offsetLines, h.offsetSamples, h.switchLine, h.guardLines, h.offsetLines, h.offsetSamples⟩

/-- Every event keeps the counters on a place of the format. -/
theorem Raster.Placed.act {r r' : Raster} (h : r.Placed) (a : RasterAct r r') : r'.Placed := by
  cases a with
  | count hc => exact h.move h.line hc
  | nextLine => exact h.nextLine
  | toSwitchLine => exact h.runTo _
  | toDeadline =>
    have ran := h.runTo r.deadlineLines
    exact ⟨ran.line, ran.sample, ran.switchLine, ran.guardLines, ran.offsetLines, ran.offsetSamples⟩
  | deadline => exact ⟨h.line, h.sample, h.switchLine, h.guardLines, h.offsetLines, h.offsetSamples⟩
  | toMissCheck => exact h.runToMissCheck.checkMiss
  | missCheck => exact h.checkMiss
  | leaveLock => exact h.leaveLock
  | realign | follow => exact h.of_reference
  | reload fi dev n =>
    have taken : ({ r with missCount := 0, startSeen := true, refState := .locked, rate := .disciplined n } : Raster).Placed :=
      h.of_reference
    exact taken.reload fi dev

/-! ## The reference (R117 to R121) -/

/-- The miss count below 3 and 0 in FREE, the rate disciplined in LOCKED alone. -/
structure Raster.Referenced (r : Raster) : Prop where
  misses : r.missCount < 3
  free : r.refState = .free → r.missCount = 0
  rate : r.rate = .nominal ↔ r.refState ≠ .locked

theorem referenceSound_iff {s : State} : ReferenceSound s ↔ s.raster.Referenced :=
  ⟨fun ⟨m, f, x⟩ => ⟨m, f, x⟩, fun ⟨m, f, x⟩ => ⟨m, f, x⟩⟩

theorem Raster.Referenced.congr {r r' : Raster} (h : r.Referenced) (hs : r'.refState = r.refState)
    (hm : r'.missCount = r.missCount) (hr : r'.rate = r.rate) : r'.Referenced :=
  ⟨hm ▸ h.misses, hs ▸ hm ▸ h.free, by rw [hr, hs]; exact h.rate⟩

/-- A miss count that has reached 3 leaves lock, and one below it leaves the record. -/
theorem Raster.leaveLock_referenced {r : Raster} (hf : r.missCount < 3 → r.refState = .free → r.missCount = 0)
    (hr : r.rate = .nominal ↔ r.refState ≠ .locked) : r.leaveLock.Referenced := by
  have limit : Config.missLimit = 3 := rfl
  unfold leaveLock
  split
  · exact ⟨by simp, fun _ => rfl, by simp⟩
  · exact ⟨by omega, hf (by omega), hr⟩

theorem Raster.Referenced.checkMiss {r : Raster} (h : r.Referenced) (hs : r.refState ≠ .free) : r.checkMiss.Referenced :=
  leaveLock_referenced (fun _ hf => absurd hf hs) h.rate

theorem Raster.runTo_reference (r : Raster) (ls : List Nat) : (r.runTo ls).refState = r.refState ∧
    (r.runTo ls).missCount = r.missCount ∧ (r.runTo ls).rate = r.rate ∧ (r.runTo ls).startSeen = r.startSeen := by
  unfold runTo
  split <;> exact ⟨rfl, rfl, rfl, rfl⟩

theorem Raster.Referenced.runTo {r : Raster} (h : r.Referenced) (ls : List Nat) : (r.runTo ls).Referenced := by
  obtain ⟨state, misses, rate, -⟩ := r.runTo_reference ls
  exact h.congr state misses rate

/-- Every event keeps the reference record sound. -/
theorem Raster.Referenced.act {r r' : Raster} (h : r.Referenced) (a : RasterAct r r') : r'.Referenced := by
  cases a with
  | count | nextLine | deadline => exact h.congr rfl rfl rfl
  | toSwitchLine => exact h.runTo _
  | toDeadline => exact (h.runTo r.deadlineLines).congr rfl rfl rfl
  | toMissCheck hs =>
    obtain ⟨state, -⟩ := r.runTo_reference r.missCheckLines
    have ran : r.runToMissCheck.Referenced := (h.runTo r.missCheckLines).congr rfl rfl rfl
    exact ran.checkMiss (state ▸ hs)
  | missCheck hs => exact h.checkMiss hs
  | leaveLock => exact leaveLock_referenced (fun _ => h.free) h.rate
  | realign hs => exact ⟨by simp, fun _ => rfl, by simpa [hs] using h.rate⟩
  | follow n hs => exact ⟨by simp, fun _ => rfl, by simp [hs]⟩
  | reload => exact ⟨by simp [reload], fun _ => rfl, by simp [reload]⟩

/-! ## Every act keeps both -/

/-- What an act makes of the generator: it stands, it moves by an event, it opens a field, or it restarts in a configuration or at reset;
and a line that starts is noted. -/
inductive RasterChange (r : Raster) : Raster → Prop
  | same (started : List Nat) : RasterChange r { r with startedLines := started }
  | event (r' : Raster) (started : List Nat) : RasterAct r r' → RasterChange r { r' with startedLines := started }
  | opened : RasterChange r r.openField
  | restart (station : Station) (c : Configuration) (started : List Nat) : Loadable station c →
      RasterChange r { r.restart c with startedLines := started }
  | reset : RasterChange r Raster.reset

theorem applyConfiguration_raster (c : Configuration) (isDefault : Bool) (s : State) : (applyConfiguration c isDefault s).raster =
    { s.raster.restart c with startedLines := (applyConfiguration c isDefault s).raster.startedLines } := by
  unfold applyConfiguration
  rw [beginLine_raster]
  simp

theorem Act.raster {s t : State} (h : Act s t) : RasterChange s.raster t.raster := by
  have same (ht : t.raster = s.raster) : RasterChange s.raster t.raster := by
    rw [ht]
    exact .same s.raster.startedLines
  cases h with
  | reset => exact .reset
  | turn r _ hr => exact .event r r.startedLines hr
  | line r _ hr =>
    rw [beginLine_raster]
    exact .event r _ hr
  | releaseDefaults station =>
    rw [applyDefaults, applyConfiguration_raster]
    exact .restart _ _ _ (.inl rfl)
  | load c d _ _ hc =>
    rw [applyConfiguration_raster]
    exact .restart _ c _ hc
  | switchPoint =>
    rw [(takeSwitchPoint_frame s).1]
    exact .opened
  | release | clearDuplicate => exact same rfl
  | _ => exact same (by simp)

theorem Raster.Placed.change {r r' : Raster} (h : r.Placed) (a : RasterChange r r') : r'.Placed := by
  have noted {r : Raster} (h : r.Placed) (started : List Nat) : ({ r with startedLines := started } : Raster).Placed :=
    ⟨h.line, h.sample, h.switchLine, h.guardLines, h.offsetLines, h.offsetSamples⟩
  cases a with
  | same started => exact noted h started
  | event r' started a => exact noted (h.act a) started
  | opened => exact ⟨h.line, h.sample, h.switchLine, h.guardLines, h.offsetLines, h.offsetSamples⟩
  | restart station c started hc =>
    have range := hc.inRange
    have lines := frameLines_ge c.format
    exact noted (r := r.restart c) ⟨⟨le_rfl, by simp only [restart]; omega⟩, lineSamples_pos _, range.switchLine,
      range.guardLines, range.offsetLines, range.offsetSamples⟩ started
  | reset => exact ⟨by decide, by decide, by decide, by decide, by decide, by decide⟩

theorem Raster.Referenced.change {r r' : Raster} (h : r.Referenced) (a : RasterChange r r') : r'.Referenced := by
  cases a with
  | same | opened => exact h.congr rfl rfl rfl
  | event r' started a => exact (h.act a).congr rfl rfl rfl
  | restart => exact ⟨by simp [restart], fun _ => rfl, by simp [restart]⟩
  | reset => exact ⟨by simp [Raster.reset], fun _ => rfl, by simp [Raster.reset]⟩

end Sys2Proof.Machine

namespace Sys2Proof.Invariants

open Sys2Proof Sys2Proof.Machine Sys2Proof.Safety

/-- Settles O50: every event, opened field and restart keeps the counters on a place of the format and the reference record sound. -/
theorem stepsKeepTheRasterSound : Obligations.StepsKeepTheRasterSound :=
  keptByStep_of_act fun h ⟨placed, referenced⟩ =>
    ⟨countersSound_iff.2 ((countersSound_iff.1 placed).change h.raster),
      referenceSound_iff.2 ((referenceSound_iff.1 referenced).change h.raster)⟩

end Sys2Proof.Invariants
end

section
/-! PROOF. The Transition Engine and the Key Layer Unit: what an applied entry and an advance can do, and the invariants of the stack
order, the rates, the progress, the counts and the levels. -/

namespace Sys2Proof.Machine

open Sys2Proof.Safety

/-! ## What an applied entry does (R160) -/

/-- The stack order that a KEYSET leaves (R53). -/
def KeysetFields.order (f : KeysetFields) (l : Layer) (stack : List Layer) : List Layer :=
  match f.stackPosition with
  | none => stack
  | some p => moveInStack stack l p

/-- The key unit with a KEYSET's fields applied (R52, R53). -/
def KeyUnit.keyset (u : KeyUnit) (l : Layer) (f : KeysetFields) : KeyUnit :=
  { u.set l (f.record (u.get l)) with stack := f.order l u.stack }

/-- The state an applied entry leaves, with the condition under which its owner applies it. -/
inductive OfferAct (e : Entry) (s : State) : State → Prop
  | select (bus : Bus) (n : Source) : selectRefusal s n = none → OfferAct e s (s.setCrosspoint { s.crosspoint with
      buses := s.crosspoint.buses.set bus ((s.crosspoint.buses.get bus).accept n e.sender) })
  | still : OfferAct e s s
  | cut : s.engine.state = .idle → s.engine.selection.isEmpty = false → OfferAct e s (complete (startTransition s))
  | cutRunning : s.engine.state ≠ .idle → OfferAct e s (complete s)
  | auto : s.engine.state = .idle → s.engine.selection.isEmpty = false →
      OfferAct e s (beginRun 0 s.engine.settings.rate (startTransition s))
  | convert : s.engine.state = .lever →
      OfferAct e s (beginRun s.engine.progress (convertedRate s.engine.progress s.engine.settings.rate) s)
  | lever (position : Nat) : OfferAct e s (evaluate (s.setEngine { s.engine with latest := some position }))
  | transet (f : TransetFields) : s.engine.state = .idle → OfferAct e s (s.setEngine (s.engine.withTranset f))
  | nextsel (n : Selection) : s.engine.state = .idle → OfferAct e s (s.setEngine { s.engine with selection := n })
  | keytakeCut (l : Layer) (on : Bool) : (s.keys.get l).moving = false →
      OfferAct e s (s.setKeys (s.keys.set l (restLayer on (s.keys.get l))))
  | keytakeMix (l : Layer) : (s.keys.get l).moving = false → OfferAct e s (s.setKeys (s.keys.set l (beginMix (s.keys.get l))))
  | keyset (l : Layer) (f : KeysetFields) : e.action = .keyset l f → OfferAct e s (s.setKeys (s.keys.keyset l f))
  | restore (i : InputNo) : (s.monitor.get i).health = .failed → (s.monitor.get i).count < s.monitor.threshold →
      OfferAct e s (s.setMonitor (s.monitor.modify i fun r => { r with health := if r.count = 0 then .clean else .suspect }))

theorem offerSelect_act {e : Entry} {s t : State} {bus : Bus} {n : Source} (h : offerSelect e.sender bus n s = .applied t) :
    OfferAct e s t := by
  unfold offerSelect at h
  split at h
  · cases h
  · next hr =>
    cases h
    exact .select bus n hr

theorem offerTakeCut_act {e : Entry} {s t : State} (h : offerTakeCut s = .applied t) : OfferAct e s t := by
  by_cases hs : s.engine.state = .idle
  · rw [offerTakeCut_idle hs] at h
    split at h
    · cases h
    · next he =>
      cases h
      exact .cut hs (Bool.eq_false_of_not_eq_true he)
  · rw [offerTakeCut_running hs] at h
    cases h
    exact .cutRunning hs

theorem offerTakeAuto_act {e : Entry} {s t : State} (h : offerTakeAuto s = .applied t) : OfferAct e s t := by
  cases hs : s.engine.state with
  | idle =>
    rw [offerTakeAuto_idle hs] at h
    split at h
    · cases h
    · next he =>
      cases h
      exact .auto hs (Bool.eq_false_of_not_eq_true he)
  | auto => cases (offerTakeAuto_auto hs).symm.trans h
  | lever =>
    cases (offerTakeAuto_lever hs).symm.trans h
    exact .convert hs

theorem offerKeytake_act {e : Entry} {s t : State} {l : Layer} {m : KeytakeMode} (h : offerKeytake l m s = .applied t) :
    OfferAct e s t := by
  cases hm : (s.keys.get l).moving with
  | true => cases (offerKeytake_moving m hm).symm.trans h
  | false =>
    cases hx : (s.keys.get l).state.isMoving with
    | true =>
      cases m with
      | cut =>
        cases (offerKeytake_cut_inMix hm hx).symm.trans h
        exact .keytakeCut l _ hm
      | mix => cases (offerKeytake_mix_inMix hm hx).symm.trans h
    | false =>
      cases m with
      | cut =>
        cases (offerKeytake_cut_atRest hm hx).symm.trans h
        exact .keytakeCut l _ hm
      | mix =>
        cases (offerKeytake_mix_atRest hm hx).symm.trans h
        exact .keytakeMix l hm

theorem offerKeyset_applied_keys {l : Layer} {f : KeysetFields} {s t : State} (h : offerKeyset l f s = .applied t) :
    t = s.setKeys (s.keys.keyset l f) := by
  unfold offerKeyset at h
  split at h
  · cases h
  · cases h
    cases hp : f.stackPosition with
    | none => cases l <;> simp [KeyUnit.keyset, KeysetFields.order, KeysetFields.record, KeyUnit.set, hp]
    | some p => simp [KeyUnit.keyset, KeysetFields.order, KeysetFields.record, hp]

theorem offerRestore_act {e : Entry} {s t : State} {i : InputNo} (h : offerRestore i s = .applied t) : OfferAct e s t := by
  simp only [offerRestore] at h
  split at h
  · cases h
    exact .still
  · next hf =>
    split at h
    · next hc =>
      cases h
      exact .restore i (not_not.1 hf) hc
    · cases h

theorem offer_act {e : Entry} {s t : State} (h : offer e s = .applied t) : OfferAct e s t := by
  unfold offer at h
  split at h
  · exact offerSelect_act h
  · exact offerTakeCut_act h
  · exact offerTakeAuto_act h
  · next position _ =>
    by_cases ho : s.intake.leverOwner = some e.sender
    · cases ((offerLever_owner s e.sender position).2 ho).symm.trans h
      exact .lever position
    · cases ((offerLever_owner s e.sender position).1 ho).symm.trans h
      exact .still
  · unfold offerTranset at h
    split at h
    · next hi =>
      cases h
      exact .transet _ hi
    · cases h
  · unfold offerNextsel at h
    split at h
    · next hi =>
      cases h
      exact .nextsel _ hi
    · cases h
  · exact offerKeytake_act h
  · next l f ha =>
    cases offerKeyset_applied_keys h
    exact .keyset l f ha
  · exact offerRestore_act h

/-! ## What the engine is made of -/

/-- The steps that every operation of the engine is made of. -/
inductive EngineAct : State → State → Prop
  | set (s : State) (e : Engine) : EngineAct s (s.setEngine e)
  | progress (s : State) (p : Nat) : EngineAct s (setProgress p s)
  | start (s : State) : EngineAct s (startTransition s)
  | complete (s : State) : EngineAct s (complete s)
  | abandon (s : State) : EngineAct s (abandon s)

abbrev EngineActs : State → State → Prop := Relation.ReflTransGen EngineAct

theorem EngineAct.acts {s t : State} (h : EngineAct s t) : EngineActs s t := .single h

theorem followLever_acts (d : Nat) (s : State) : EngineActs s (followLever d s) := by
  unfold followLever
  repeat' split
  · exact (EngineAct.complete s).acts
  · exact (EngineAct.abandon s).acts
  · exact (EngineAct.progress s d).acts

theorem leverStart_acts (d : Nat) (s : State) : EngineActs s (leverStart d s) :=
  ((EngineAct.start s).acts.trans (EngineAct.set _ _).acts).trans (EngineAct.progress _ d).acts

theorem evaluate_acts (s : State) : EngineActs s (evaluate s) := by
  unfold evaluate
  split
  · exact .refl
  · next position _ =>
    split
    · by_cases h : StartsTransition s.engine (derivedProgress s.engine.sense position)
      · rw [evaluateIdle_starts h]
        split
        · exact (leverStart_acts _ s).trans (EngineAct.complete _).acts
        · exact leverStart_acts _ s
      · rw [evaluateIdle_picksUp h]
        exact (EngineAct.set s _).acts
    · by_cases h : Engages s.engine (derivedProgress s.engine.sense position)
      · rw [evaluateLever_engages h]
        exact (EngineAct.set s _).acts.trans (followLever_acts _ _)
      · rw [evaluateLever_holds h]
    · exact .refl

theorem settleRun_acts (s : State) : EngineActs s (settleRun s) := by
  simp only [settleRun]
  split
  · exact (EngineAct.complete s).acts
  · exact (EngineAct.progress s _).acts

theorem advanceEngine_acts (s : State) : EngineActs s (advanceEngine s) := by
  unfold advanceEngine
  split
  · exact (EngineAct.set s _).acts.trans (settleRun_acts _)
  · exact evaluate_acts s
  · exact evaluate_acts s

theorem beginRun_acts (p0 r : Nat) (s : State) : EngineActs s (beginRun p0 r s) :=
  (EngineAct.set s _).acts.trans (settleRun_acts _)

/-- An applied entry is made of the engine's steps, or is one of the other owners'. -/
theorem OfferAct.engineActs {e : Entry} {s t : State} (h : OfferAct e s t) :
    EngineActs s t ∨ (∃ bus n, selectRefusal s n = none ∧ t = s.setCrosspoint { s.crosspoint with
      buses := s.crosspoint.buses.set bus ((s.crosspoint.buses.get bus).accept n e.sender) }) ∨
    (∃ l r, r.settings = (s.keys.get l).settings ∧ t = s.setKeys (s.keys.set l r)) ∨
    (∃ l f, e.action = .keyset l f ∧ t = s.setKeys (s.keys.keyset l f)) ∨ ∃ m, t = s.setMonitor m := by
  cases h with
  | select bus n hr => exact .inr (.inl ⟨bus, n, hr, rfl⟩)
  | still => exact .inl .refl
  | cut => exact .inl ((EngineAct.start s).acts.trans (EngineAct.complete _).acts)
  | cutRunning => exact .inl (EngineAct.complete s).acts
  | auto => exact .inl ((EngineAct.start s).acts.trans (beginRun_acts _ _ _))
  | convert => exact .inl (beginRun_acts _ _ s)
  | lever => exact .inl ((EngineAct.set s _).acts.trans (evaluate_acts _))
  | transet | nextsel => exact .inl (EngineAct.set s _).acts
  | keytakeCut l on => exact .inr (.inr (.inl ⟨l, restLayer on (s.keys.get l), rfl, rfl⟩))
  | keytakeMix l =>
    refine .inr (.inr (.inl ⟨l, beginMix (s.keys.get l), ?_, rfl⟩))
    simp only [beginMix, settleMix]
    split <;> rfl
  | keyset l f ha => exact .inr (.inr (.inr (.inl ⟨l, f, ha, rfl⟩)))
  | restore => exact .inr (.inr (.inr (.inr ⟨_, rfl⟩)))

/-! ## The stack order and the layers' settings -/

theorem followProgress_settings (p : Nat) (r : LayerRecord) : (followProgress p r).settings = r.settings := by
  unfold followProgress
  repeat' split
  all_goals rfl

theorem landLayer_settings (r : LayerRecord) : (landLayer r).settings = r.settings := by
  unfold landLayer
  split <;> rfl

theorem returnLayer_settings (r : LayerRecord) : (returnLayer r).settings = r.settings := by
  unfold returnLayer
  split <;> rfl

theorem advanceMix_settings (r : LayerRecord) : (advanceMix r).settings = r.settings := by
  unfold advanceMix settleMix
  repeat' split
  all_goals rfl

/-- The engine moves layers, and changes neither the stack order nor a layer's settings. -/
theorem EngineActs.layers {s t : State} (h : EngineActs s t) :
    t.keys.stack = s.keys.stack ∧ ∀ l, (t.keys.get l).settings = (s.keys.get l).settings := by
  induction h with
  | refl => exact ⟨rfl, fun _ => rfl⟩
  | tail _ h ih =>
    obtain ⟨stack, settings⟩ := ih
    cases h with
    | set => exact ⟨stack, settings⟩
    | progress p => exact ⟨stack, fun l => by rw [setProgress_get, followProgress_settings, settings]⟩
    | start =>
      refine ⟨stack, fun l => ?_⟩
      rw [startTransition_get]
      split <;> exact settings l
    | complete => exact ⟨stack, fun l => by rw [complete_get, landLayer_settings, settings]⟩
    | abandon => exact ⟨stack, fun l => by rw [abandon_get, returnLayer_settings, settings]⟩

theorem KeysetFields.order_perm (f : KeysetFields) (l : Layer) {stack : List Layer} (h : stack.Perm [.l1, .l2, .l3, .l4]) :
    (f.order l stack).Perm [.l1, .l2, .l3, .l4] := by
  have mem : l ∈ stack := h.mem_iff.2 (by cases l <;> decide)
  unfold order
  split
  · exact h
  · exact (moveInStack_perm mem _).trans h

theorem stackSound_fieldAct {s t : State} (h : FieldAct s t) (hs : StackSound s) : StackSound t := by
  have same (hk : t.keys.stack = s.keys.stack) : StackSound t := by rwa [StackSound, hk]
  cases h with
  | engine => exact same (advanceEngine_acts s).layers.1
  | applied _ e _ _ ho =>
    rcases (offer_act ho).engineActs with ha | ⟨_, _, _, rfl⟩ | ⟨l, r, -, rfl⟩ | ⟨l, f, -, rfl⟩ | ⟨_, rfl⟩
    · exact same ha.layers.1
    · exact hs
    · exact same (by simp)
    · exact f.order_perm l hs
    · exact hs
  | _ => exact same (by simp [advanceKeys])

theorem stackSound_act {s t : State} (h : Act s t) (hs : StackSound s) : StackSound t := by
  have same (hk : t.keys.stack = s.keys.stack) : StackSound t := by rwa [StackSound, hk]
  have derived {u v : State} (hu : StackSound u) (hk : v.keys = u.keys) : StackSound v := by rwa [StackSound, hk]
  cases h with
  | reset => exact List.Perm.refl _
  | releaseDefaults | load => exact same (by simp [applyDefaults, applyConfiguration, readStraps, KeyUnit.configure])
  | switchPoint =>
    refine takeSwitchPoint_keeps (inv := StackSound) (mid := StackSound) (derived hs (by simp)) (fun a h => stackSound_fieldAct a h)
      (fun _ => derived hs (by simp)) ?_ ?_ ?_ <;> exact fun u _ _ h => derived h (by simp)
  | complete => simpa [StackSound, complete] using hs
  | release | clearDuplicate => exact same rfl
  | _ => exact same (by simp)

/-! ## The key rates (R7, R152) -/

/-- The rates that the layers hold, and that waiting KEYSET entries carry. -/
structure RatesHeld (k : KeyUnit) (q : List Entry) : Prop where
  layers : ∀ l, (k.get l).settings.RateSound
  entries : ∀ e ∈ q, e.action.RateInRange

theorem ratesSound_iff {s : State} : RatesSound s ↔ RatesHeld s.keys s.intake.queue :=
  ⟨fun ⟨l, e⟩ => ⟨l, e⟩, fun ⟨l, e⟩ => ⟨l, e⟩⟩

theorem RatesHeld.of_settings {k k' : KeyUnit} {q q' : List Entry} (h : RatesHeld k q)
    (hk : ∀ l, (k'.get l).settings = (k.get l).settings) (hq : ∀ e ∈ q', e ∈ q) : RatesHeld k' q' :=
  ⟨fun l => by rw [hk]; exact h.layers l, fun e he => h.entries e (hq e he)⟩

theorem ratesSound_fieldAct {s t : State} (h : FieldAct s t) (hs : RatesSound s) : RatesSound t := by
  rw [ratesSound_iff] at hs ⊢
  have same (hk : ∀ l, (t.keys.get l).settings = (s.keys.get l).settings) (hq : t.intake.queue = s.intake.queue) :
      RatesHeld t.keys t.intake.queue := hs.of_settings hk fun e he => hq ▸ he
  cases h with
  | engine => exact same (advanceEngine_acts s).layers.2 (by simp)
  | keys => exact same (fun l => by simp [advanceKeys, advanceMix_settings]) (by simp)
  | requeue q hq => exact hs.of_settings (fun _ => rfl) fun e he => hq.subset he
  | applied _ e _ he ho =>
    have queue : t.intake.queue = s.intake.queue := by simp [offer_applied_frame e s t ho]
    rcases (offer_act ho).engineActs with ha | ⟨_, _, _, rfl⟩ | ⟨l, r, hr, rfl⟩ | ⟨l, f, hf, rfl⟩ | ⟨_, rfl⟩
    · exact same ha.layers.2 queue
    · exact hs
    · refine same (fun x => ?_) queue
      by_cases hx : x = l
      · subst hx
        simpa using hr
      · simp [hx]
    · refine ⟨fun x => ?_, hs.entries⟩
      by_cases hx : x = l
      · subst hx
        simpa [KeyUnit.keyset, KeysetFields.record] using
          (hs.layers x).applyKeyset fun r hr => hs.entries e he x f r hf hr
      · simpa [KeyUnit.keyset, hx] using hs.layers x
    · exact hs
  | _ => exact same (fun _ => by simp) (by simp)

theorem KeyUnit.configure_get_rates {c : Configuration} (h : c.InRange) (k : KeyUnit) (l : Layer) :
    ((k.configure c).get l).settings.RateSound := by
  cases l
  · exact h.keys1
  · exact h.keys2
  · exact h.keys3
  · exact h.keys4

theorem applyConfiguration_keys (c : Configuration) (isDefault : Bool) (s : State) :
    (applyConfiguration c isDefault s).keys = s.keys.configure c := by
  simp [applyConfiguration]

theorem ratesSound_act {s t : State} (h : Act s t) (hs : RatesSound s) : RatesSound t := by
  rw [ratesSound_iff] at hs
  have same (hk : t.keys = s.keys) (hq : t.intake.queue = s.intake.queue) : RatesSound t :=
    ratesSound_iff.2 (hs.of_settings (fun l => by rw [hk]) fun e he => hq ▸ he)
  have configured {c : Configuration} (hc : c.InRange) (hk : t.keys = s.keys.configure c) (hq : t.intake.queue = s.intake.queue) :
      RatesSound t := by
    rw [ratesSound_iff, hk, hq]
    exact ⟨KeyUnit.configure_get_rates hc s.keys, hs.entries⟩
  have derived {u v : State} (hu : RatesSound u) (hk : v.keys = u.keys) (hq : v.intake.queue = u.intake.queue) : RatesSound v := by
    rwa [ratesSound_iff, hk, hq, ← ratesSound_iff]
  cases h with
  | reset =>
    refine ⟨fun l => ?_, fun e he => by cases he⟩
    cases l <;> exact KeySettings.RateSound.ofReset
  | release | clearDuplicate => exact same rfl rfl
  | releaseDefaults station =>
    exact configured (default_inRange station) (by simp [applyDefaults, applyConfiguration_keys, readStraps])
      (by simp [applyDefaults, readStraps, Intake.configure])
  | load c d _ _ hc => exact configured hc.inRange (applyConfiguration_keys c d s) (by simp [Intake.configure])
  | complete =>
    exact ratesSound_iff.2 (hs.of_settings (fun l => by simp [landLayer_settings]) fun e he => by simpa using he)
  | own => exact same (by simp) (by simp [setOwner_intake])
  | delegate | standing => exact same (by simp) (by simp [recordDelegate, recordStanding])
  | join sender a _ _ ha =>
    refine ratesSound_iff.2 ⟨hs.layers, fun e he => ?_⟩
    rcases List.mem_append.1 he with he | he
    · rw [withoutKey_eq] at he
      exact hs.entries e (List.mem_filter.1 he).1
    · rw [List.mem_singleton.1 he]
      exact ha
  | switchPoint =>
    refine takeSwitchPoint_keeps (inv := RatesSound) (mid := RatesSound) (ratesSound_iff.2 hs) (fun a h => ratesSound_fieldAct a h)
      (fun _ => ratesSound_iff.2 hs) ?_ ?_ ?_ <;> exact fun u _ _ h => derived h (by simp) (by simp)
  | _ => exact same (by simp) (by simp)

/-! ## One layer (R45, R48) -/

/-- A layer sound with the engine in a transition or not, and at a progress. -/
abbrev LayerRecord.SoundWith (r : LayerRecord) (moves : Bool) (p : Nat) : Prop := LayerRecord.Sound moves p r

/-- A layer that does not move with the transition is sound whatever the engine does. -/
theorem LayerRecord.SoundWith.of_still {moves moves' : Bool} {p p' : Nat} {r : LayerRecord} (h : r.SoundWith moves p)
    (hm : r.moving = false) : r.SoundWith moves' p' := by
  cases hs : r.state <;> simp_all [LayerRecord.SoundWith, LayerRecord.Sound]

theorem restLayer_sound (moves : Bool) (p : Nat) (on : Bool) (r : LayerRecord) : (restLayer on r).SoundWith moves p := by
  cases on <;> simp [restLayer, restState, restLevel, LayerRecord.Sound]

/-- A layer sound but for the level it takes from the progress. -/
structure LayerRecord.Ready (r : LayerRecord) : Prop where
  moving : r.moving = true → r.elapsed = 0 ∧ r.state.isMoving = true
  still : r.moving = false → ∀ moves p, r.SoundWith moves p

theorem LayerRecord.SoundWith.ready {moves : Bool} {p : Nat} {r : LayerRecord} (h : r.SoundWith moves p) : r.Ready := by
  refine ⟨fun hm => ?_, fun hm _ _ => h.of_still hm⟩
  cases hs : r.state <;> simp_all [LayerRecord.SoundWith, LayerRecord.Sound, LayerState.isMoving]

theorem turnLayer_ready (r : LayerRecord) : (turnLayer r).Ready := by
  refine ⟨fun _ => ⟨rfl, ?_⟩, fun hm => by cases hm⟩
  unfold turnLayer
  cases r.state <;> rfl

/-- Once its level follows the progress, a layer that is ready is sound with it (R43). -/
theorem LayerRecord.Ready.followProgress {r : LayerRecord} (h : r.Ready) (p : Nat) : (followProgress p r).SoundWith true p := by
  cases hm : r.moving with
  | false => rw [followProgress_still p hm]; exact h.still hm true p
  | true =>
    obtain ⟨elapsed, moves⟩ := h.moving hm
    cases hs : r.state with
    | off | on => simp [hs, LayerState.isMoving] at moves
    | rising => rw [followProgress_rising p hm hs]; simp [LayerRecord.SoundWith, LayerRecord.Sound, hs, hm, elapsed]
    | falling => rw [followProgress_falling p hm hs]; simp [LayerRecord.SoundWith, LayerRecord.Sound, hs, hm, elapsed]

theorem LayerRecord.Ready.land {r : LayerRecord} (h : r.Ready) (moves : Bool) (p : Nat) : (landLayer r).SoundWith moves p := by
  unfold landLayer
  split
  · exact restLayer_sound moves p _ r
  · next hm => exact h.still (Bool.eq_false_of_not_eq_true hm) moves p

theorem LayerRecord.Ready.return {r : LayerRecord} (h : r.Ready) (moves : Bool) (p : Nat) : (returnLayer r).SoundWith moves p := by
  unfold returnLayer
  split
  · exact restLayer_sound moves p _ r
  · next hm => exact h.still (Bool.eq_false_of_not_eq_true hm) moves p

/-- Within an own key mix the level lies strictly between its ends (R45, R47). -/
theorem mixLevel_between {n rate : Nat} (h1 : 1 ≤ n) (hn : n < rate) (hr : rate ≤ 999) (rising : Bool) :
    1 ≤ mixLevel rising n rate ∧ mixLevel rising n rate ≤ 1023 := by
  have low : 1 ≤ n * 1024 / rate := (Nat.one_le_div_iff (by omega)).2 (by omega)
  have high : n * 1024 / rate < 1024 := Nat.div_lt_of_lt_mul (by omega)
  cases rising <;> simp only [mixLevel, if_true, Bool.false_eq_true, if_false] <;> omega

/-- An own key mix at its present count is sound. -/
theorem settleMix_sound {r : LayerRecord} (hm : r.moving = false) (hx : r.state.isMoving = true) (h1 : 1 ≤ r.elapsed)
    (hr : r.settings.RateSound) (moves : Bool) (p : Nat) : (settleMix r).SoundWith moves p := by
  unfold settleMix
  split
  · exact restLayer_sound moves p _ r
  · next he =>
    have level := mixLevel_between h1 (Nat.not_le.1 he) hr.2 r.state.endsOn
    cases hs : r.state <;> simp_all [LayerRecord.SoundWith, LayerRecord.Sound, LayerState.isMoving]

theorem advanceMix_sound {r : LayerRecord} {moves : Bool} {p : Nat} (h : r.SoundWith moves p) (hr : r.settings.RateSound) :
    (advanceMix r).SoundWith moves p := by
  unfold advanceMix
  split
  · next ho =>
    obtain ⟨hx, hm⟩ : r.state.isMoving = true ∧ r.moving = false := by simpa [LayerRecord.ownMix] using ho
    exact settleMix_sound (r := { r with elapsed := r.elapsed + 1 }) hm hx (Nat.succ_pos _) hr moves p
  · exact h

theorem beginMix_sound {r : LayerRecord} (hr : r.settings.RateSound) (moves : Bool) (p : Nat) : (beginMix r).SoundWith moves p :=
  settleMix_sound (r := { r with state := if r.state.endsOn then .falling else .rising, elapsed := 1, moving := false }) rfl
    (by cases r.state <;> rfl) le_rfl hr moves p

/-! ## The engine and the layers together (R19 to R26, R43) -/

/-- The engine sound, its selection not empty in a transition, and the layers sound with it. -/
structure Together (e : Engine) (k : KeyUnit) : Prop where
  engine : Engine.Sound e
  selection : e.state ≠ .idle → e.selection.isEmpty = false
  layers : ∀ l, (k.get l).SoundWith (e.state != .idle) e.progress

/-- Outside RUNNING the engine is IDLE with no lever position, and every layer OFF (R44, R61). -/
def AtRest (e : Engine) (k : KeyUnit) : Prop := e.state = .idle ∧ e.latest = none ∧ ∀ l, (k.get l).state = .off

theorem transitionSound_iff {s : State} :
    TransitionSound s ↔ Together s.engine s.keys ∧ (s.loader.state ≠ .running → AtRest s.engine s.keys) :=
  ⟨fun ⟨e, n, l, o⟩ => ⟨⟨e, n, l⟩, o⟩, fun ⟨⟨e, n, l⟩, o⟩ => ⟨e, n, l, o⟩⟩

theorem Together.ready {e : Engine} {k : KeyUnit} (h : Together e k) (l : Layer) : (k.get l).Ready := (h.layers l).ready

/-- The lever's own record, the direction bit and all settings but the rate are no part of it; disengaging is none either. -/
theorem Together.congr {e e' : Engine} {k : KeyUnit} (h : Together e k) (hs : e'.state = e.state) (hp : e'.progress = e.progress)
    (h0 : e'.startProgress = e.startProgress) (hn : e'.elapsed = e.elapsed) (hr : e'.remaining = e.remaining)
    (ht : e'.settings = e.settings) (hx : e'.selection = e.selection) (hg : e.state = .auto → e'.engaged = false) : Together e' k := by
  refine ⟨?_, by rw [hs, hx]; exact h.selection, by rw [hs, hp]; exact h.layers⟩
  have engine := h.engine
  unfold Engine.Sound at engine ⊢
  rw [hs]
  split
  · next hi => simpa only [hi, hp, h0, hn, hr, ht] using engine
  · next ha =>
    simp only [ha] at engine
    obtain ⟨start, elapsed, remaining, -, progress⟩ := engine
    rw [hp, h0, hn, hr]
    exact ⟨start, elapsed, remaining, hg ha, progress⟩
  · next hl => simpa only [hl, hp] using engine

section
variable {s : State} (ready : ∀ l, (s.keys.get l).Ready)
include ready

theorem complete_together : Together (complete s).engine (complete s).keys :=
  ⟨⟨rfl, rfl, rfl, rfl⟩, fun h => absurd rfl h, fun l => by rw [complete_get]; exact (ready l).land _ _⟩

theorem abandon_together : Together (abandon s).engine (abandon s).keys :=
  ⟨⟨rfl, rfl, rfl, rfl⟩, fun h => absurd rfl h, fun l => by rw [abandon_get]; exact (ready l).return _ _⟩

/-- A progress written in a transition carries the layers with it (R43). -/
theorem setProgress_together {p : Nat} (hs : s.engine.state ≠ .idle) (he : Engine.Sound { s.engine with progress := p })
    (hn : s.engine.selection.isEmpty = false) : Together (setProgress p s).engine (setProgress p s).keys := by
  refine ⟨he, fun _ => hn, fun l => ?_⟩
  have moves : ((setProgress p s).engine.state != .idle) = true := bne_iff_ne.2 hs
  rw [setProgress_get, moves]
  exact (ready l).followProgress p

/-- An AUTO run at a count of 1 or more has completed or stands at the progress of its count (R22). -/
theorem settleRun_together (hs : s.engine.state = .auto) (hn : s.engine.selection.isEmpty = false)
    (h0 : s.engine.startProgress ≤ 1007) (h1 : 1 ≤ s.engine.elapsed) (hg : s.engine.engaged = false) :
    Together (settleRun s).engine (settleRun s).keys := by
  simp only [settleRun]
  split
  · exact complete_together ready
  · next hr =>
    refine setProgress_together ready (by simp [hs]) ?_ hn
    simp only [Engine.Sound, hs]
    exact ⟨h0, h1, Nat.not_le.1 hr, hg, trivial⟩

/-- A lever in LEVER completes, abandons, or stands between the end zones (R39). -/
theorem followLever_together (hs : s.engine.state = .lever) (hn : s.engine.selection.isEmpty = false) (d : Nat) :
    Together (followLever d s).engine (followLever d s).keys := by
  by_cases far : 1008 ≤ d
  · rw [followLever_far s far]
    exact complete_together ready
  · by_cases home : d ≤ 16
    · rw [followLever_home s home]
      exact abandon_together ready
    · rw [followLever_between s (by omega) (by omega)]
      refine setProgress_together ready (by simp [hs]) ?_ hn
      simp only [Engine.Sound, hs]
      omega

theorem startTransition_ready (l : Layer) : ((startTransition s).keys.get l).Ready := by
  rw [startTransition_get]
  split
  · exact turnLayer_ready _
  · exact ready l

/-- A lever that starts a transition stands between the end zones, or completes it at once (R38). -/
theorem leverStart_together (hn : s.engine.selection.isEmpty = false) {d : Nat} (hd : 16 < d ∧ d < 1008) :
    Together (leverStart d s).engine (leverStart d s).keys :=
  setProgress_together (s := (startTransition s).setEngine { s.engine with state := .lever }) (startTransition_ready ready)
    (by simp) (by simp only [Engine.Sound, State.setEngine_engine]; omega) hn

theorem leverStart_ready (d : Nat) (l : Layer) : ((leverStart d s).keys.get l).Ready := by
  rw [leverStart_get, ← startTransition_get]
  exact ((startTransition_ready ready l).followProgress d).ready

theorem beginRun_together (hn : s.engine.selection.isEmpty = false) {p0 : Nat} (h0 : p0 ≤ 1007) (r : Nat) :
    Together (beginRun p0 r s).engine (beginRun p0 r s).keys :=
  settleRun_together (s := s.setEngine { s.engine with state := .auto, startProgress := p0, remaining := r, elapsed := 1, engaged := false })
    ready rfl hn h0 le_rfl rfl

end

theorem evaluate_together {s : State} (h : Together s.engine s.keys) : Together (evaluate s).engine (evaluate s).keys := by
  unfold evaluate
  split
  · exact h
  · next position _ =>
    split
    · next hs =>
      by_cases starts : StartsTransition s.engine (derivedProgress s.engine.sense position)
      · rw [evaluateIdle_starts starts]
        split
        · exact complete_together (leverStart_ready h.ready _)
        · next far => exact leverStart_together h.ready starts.2.2 ⟨starts.2.1, Nat.not_le.1 far⟩
      · rw [evaluateIdle_picksUp starts]
        unfold Engine.pickUp
        repeat' split
        all_goals exact h.congr rfl rfl rfl rfl rfl rfl rfl (by simp [hs])
    · next hs =>
      by_cases engages : Engages s.engine (derivedProgress s.engine.sense position)
      · rw [evaluateLever_engages engages]
        exact followLever_together (s := s.setEngine { s.engine with engaged := true }) h.ready hs (h.selection (by simp [hs])) _
      · rwa [evaluateLever_holds engages]
    · exact h

theorem advanceEngine_together {s : State} (h : Together s.engine s.keys) :
    Together (advanceEngine s).engine (advanceEngine s).keys := by
  cases hs : s.engine.state with
  | auto =>
    have engine := h.engine
    simp only [Engine.Sound, hs] at engine
    obtain ⟨start, -, -, engaged, -⟩ := engine
    simp only [advanceEngine, hs]
    exact settleRun_together (s := s.setEngine { s.engine with elapsed := s.engine.elapsed + 1 }) h.ready hs
      (h.selection (by simp [hs])) start (Nat.succ_pos _) engaged
  | idle | lever =>
    simp only [advanceEngine, hs]
    exact evaluate_together h

theorem KeyUnit.get_set (k : KeyUnit) (l x : Layer) (r : LayerRecord) : (k.set l r).get x = if x = l then r else k.get x := by
  by_cases hx : x = l
  · subst hx
    simp
  · simp [hx]

theorem LayerRecord.SoundWith.of_settings {moves : Bool} {p : Nat} {r : LayerRecord} (h : r.SoundWith moves p) (k : KeySettings) :
    ({ r with settings := k } : LayerRecord).SoundWith moves p := h

theorem together_offerAct {e : Entry} {s t : State} (ha : OfferAct e s t) (h : Together s.engine s.keys)
    (hr : ∀ l, (s.keys.get l).settings.RateSound) : Together t.engine t.keys := by
  have layer {l : Layer} {r : LayerRecord} (hl : r.SoundWith (s.engine.state != .idle) s.engine.progress) :
      Together s.engine (s.keys.set l r) := by
    refine ⟨h.engine, h.selection, fun x => ?_⟩
    rw [KeyUnit.get_set]
    split
    · exact hl
    · exact h.layers x
  cases ha with
  | select | still | restore => exact h
  | cut => exact complete_together (startTransition_ready h.ready)
  | cutRunning => exact complete_together h.ready
  | auto _ hn => exact beginRun_together (startTransition_ready h.ready) hn (by decide) _
  | convert hs =>
    have engine := h.engine
    simp only [Engine.Sound, hs] at engine
    exact beginRun_together h.ready (h.selection (by simp [hs])) engine.2 _
  | lever position =>
    have engine := h.engine
    refine evaluate_together (s := s.setEngine _) (h.congr rfl rfl rfl rfl rfl rfl rfl fun hs => ?_)
    simp only [Engine.Sound, hs] at engine
    exact engine.2.2.2.1
  | transet f hs =>
    have engine := h.engine
    simp only [Engine.Sound, hs] at engine
    obtain ⟨progress, start, elapsed, -⟩ := engine
    refine ⟨?_, h.selection, h.layers⟩
    simp only [Engine.Sound, Engine.withTranset, State.setEngine_engine, hs]
    exact ⟨progress, start, elapsed, trivial⟩
  | nextsel n hs => exact ⟨h.engine, fun hi => absurd hs hi, h.layers⟩
  | keytakeCut l on => exact layer (restLayer_sound _ _ on _)
  | keytakeMix l => exact layer (beginMix_sound (hr l) _ _)
  | keyset l f =>
    have kept := layer (l := l) ((h.layers l).of_settings (applyKeyset f (s.keys.get l).settings))
    exact ⟨kept.engine, kept.selection, fun x => by simpa [KeyUnit.keyset, KeysetFields.record] using kept.layers x⟩

/-- An engine that is IDLE with no lever position advances nothing. -/
theorem advanceEngine_idle {s : State} (idle : s.engine.state = .idle) (latest : s.engine.latest = none) : advanceEngine s = s := by
  simp [advanceEngine, idle, evaluate, latest]

/-- Layers at rest stand through the unit's advance. -/
theorem advanceKeys_still {s : State} (still : ∀ l, (s.keys.get l).state = .off ∨ (s.keys.get l).state = .on) : advanceKeys s = s := by
  have stands (l : Layer) : advanceMix (s.keys.get l) = s.keys.get l := by
    rcases still l with h | h <;> simp [advanceMix, LayerRecord.ownMix, h, LayerState.isMoving]
  have same : (s.keys.mapLayers fun _ r => advanceMix r) = s.keys := by
    simp only [KeyUnit.mapLayers]
    rw [show advanceMix s.keys.layer1 = s.keys.layer1 from stands .l1, show advanceMix s.keys.layer2 = s.keys.layer2 from stands .l2,
      show advanceMix s.keys.layer3 = s.keys.layer3 from stands .l3, show advanceMix s.keys.layer4 = s.keys.layer4 from stands .l4]
  rw [advanceKeys, same]
  rfl

theorem AtRest.advances_nothing {s : State} (h : AtRest s.engine s.keys) : advanceEngine s = s ∧ advanceKeys s = s := by
  obtain ⟨idle, latest, off⟩ := h
  exact ⟨advanceEngine_idle idle latest, advanceKeys_still fun l => .inl (off l)⟩

/-! ## Every act keeps it -/

/-- Working the owner out again leaves the engine or disengages it (R41). -/
theorem reviseOwner_engine (s : State) : (reviseOwner s).engine = s.engine ∨
    (reviseOwner s).engine = s.engine.disengage ∧ s.loader.state = .running := by
  by_cases hr : s.loader.state = .running
  · have owned (o : Option Station) : (setOwner o s).engine = s.engine ∨ (setOwner o s).engine = s.engine.disengage := by
      rw [setOwner_engine]
      split
      · exact .inl rfl
      · exact .inr rfl
    cases hp : s.intake.leverPolicy with
    | fixed => rw [reviseOwner_fixed s hr hp]; exact (owned _).imp_right fun h => ⟨h, hr⟩
    | latest => rw [reviseOwner_latest s hr hp]; exact (owned _).imp_right fun h => ⟨h, hr⟩
  · rw [reviseOwner_outside s hr]
    exact .inl rfl

theorem Together.disengage {e : Engine} {k : KeyUnit} (h : Together e k) : Together e.disengage k :=
  h.congr rfl rfl rfl rfl rfl rfl rfl fun _ => rfl

theorem transitionSound_of_same {s t : State} (h : TransitionSound s) (he : t.engine = s.engine) (hk : t.keys = s.keys)
    (hl : t.loader.state ≠ .running → s.loader.state ≠ .running) : TransitionSound t := by
  rw [transitionSound_iff] at h ⊢
  rw [he, hk]
  exact ⟨h.1, fun ht => h.2 (hl ht)⟩

/-- A state that changes no engine and no layer keeps the invariant once its owner is worked out again. -/
theorem transitionSound_revise {s u : State} (h : TransitionSound s) (he : u.engine = s.engine) (hk : u.keys = s.keys)
    (hl : u.loader.state ≠ .running → s.loader.state ≠ .running) : TransitionSound (reviseOwner u) := by
  have sound := transitionSound_of_same h he hk hl
  rcases reviseOwner_engine u with heng | ⟨heng, hr⟩
  · exact transitionSound_of_same sound heng (by simp) (by simp)
  · rw [transitionSound_iff] at sound ⊢
    refine ⟨?_, fun ht => absurd hr (by simpa using ht)⟩
    rw [heng]
    simpa using sound.1.disengage

theorem transitionSound_running {s : State} (hr : s.loader.state = .running) : TransitionSound s ↔ Together s.engine s.keys :=
  transitionSound_iff.trans ⟨fun h => h.1, fun h => ⟨h, fun ho => absurd hr ho⟩⟩

theorem transitionSound_fieldAct {s t : State} (h : FieldAct s t) (hr : RatesSound s) (hs : TransitionSound s) :
    TransitionSound t := by
  have rates := (ratesSound_iff.1 hr).layers
  obtain ⟨together, outside⟩ := transitionSound_iff.1 hs
  have same (he : t.engine = s.engine) (hk : t.keys = s.keys) : TransitionSound t :=
    transitionSound_of_same hs he hk (by simp [h.loader])
  cases h with
  | engine =>
    refine transitionSound_iff.2 ⟨advanceEngine_together together, fun ho => ?_⟩
    have rest := outside (by simpa using ho)
    rwa [rest.advances_nothing.1]
  | keys =>
    refine transitionSound_iff.2 ⟨⟨by simpa using together.engine, by simpa using together.selection, fun l => ?_⟩, fun ho => ?_⟩
    · simpa [advanceKeys] using advanceMix_sound (together.layers l) (rates l)
    · have rest := outside (by simpa using ho)
      rwa [rest.advances_nothing.2]
  | expire => exact transitionSound_revise hs rfl rfl id
  | applied _ e hrun _ ho =>
    refine (transitionSound_running ?_).2 (together_offerAct (offer_act ho) together rates)
    rw [(offer_applied_frame e s t ho).1]
    exact hrun
  | _ => exact same (by simp) (by simp)

theorem enterRunning_transitionSound {s : State} (h : TransitionSound s) : TransitionSound (enterRunning s) :=
  transitionSound_revise h rfl rfl (by simp)

/-- The initial settings leave of each layer everything else (R180). -/
theorem KeyUnit.configure_get (k : KeyUnit) (c : Configuration) (l : Layer) :
    (k.configure c).get l = { k.get l with settings := ((k.configure c).get l).settings } := by
  cases l <;> rfl

theorem together_configure {e : Engine} {k : KeyUnit} (h : Together e k) (hr : AtRest e k) (c : Configuration) :
    Together (e.configure c) (k.configure c) ∧ AtRest (e.configure c) (k.configure c) := by
  obtain ⟨idle, latest, off⟩ := hr
  have engine := h.engine
  simp only [Engine.Sound, idle] at engine
  obtain ⟨progress, start, elapsed, -⟩ := engine
  refine ⟨⟨?_, h.selection, fun l => ?_⟩, idle, latest, fun l => ?_⟩
  · simp only [Engine.Sound, Engine.configure, idle]
    exact ⟨progress, start, elapsed, trivial⟩
  · rw [k.configure_get]
    exact (h.layers l).of_settings _
  · rw [k.configure_get]
    exact off l

theorem applyConfiguration_engine (c : Configuration) (isDefault : Bool) (s : State) :
    (applyConfiguration c isDefault s).engine = s.engine.configure c := by
  simp [applyConfiguration]

theorem transitionSound_act {s t : State} (h : Act s t) (hl : LoaderSound s) (hr : RatesSound s) (hs : TransitionSound s) :
    TransitionSound t := by
  obtain ⟨together, outside⟩ := transitionSound_iff.1 hs
  have same (he : t.engine = s.engine) (hk : t.keys = s.keys) (hl : t.loader.state ≠ .running → s.loader.state ≠ .running) :
      TransitionSound t := transitionSound_of_same hs he hk hl
  have configured {c : Configuration} (hlo : s.loader.state = .loading) (he : t.engine = s.engine.configure c)
      (hk : t.keys = s.keys.configure c) : TransitionSound t := by
    obtain ⟨together, rest⟩ := together_configure together (outside (by simp [hlo])) c
    rw [transitionSound_iff, he, hk]
    exact ⟨together, fun _ => rest⟩
  cases h with
  | reset =>
    refine transitionSound_iff.2 ⟨⟨⟨rfl, rfl, rfl, rfl⟩, fun h => absurd rfl h, fun l => ?_⟩, fun _ => ⟨rfl, rfl, fun l => ?_⟩⟩
    · cases l <;> exact ⟨rfl, rfl, rfl⟩
    · cases l <;> rfl
  | release => exact same rfl rfl id
  | clearDuplicate => exact same rfl rfl id
  | releaseDefaults station _ ha =>
    exact configured (hl.1 ha) (by rw [applyDefaults, applyConfiguration_engine]; rfl)
      (by rw [applyDefaults, applyConfiguration_keys]; rfl)
  | load c d _ hlo => exact configured hlo (applyConfiguration_engine c d s) (applyConfiguration_keys c d s)
  | enter =>
    exact transitionSound_of_same (enterRunning_transitionSound hs) (by simp) (by simp) (by simp)
  | complete _ hd =>
    refine transitionSound_iff.2 ⟨by simpa using complete_together together.ready, fun ho => ?_⟩
    have idle := (outside (by simpa using ho)).1
    simp [Engine.completionDue, idle] at hd
  | expire | delegate | standing => exact transitionSound_revise hs rfl rfl id
  | duplicate => exact same (by simp) (by simp) fun h hr => h (by simp [hearDuplicate_loader, hr])
  | own p hrun =>
    refine (transitionSound_running (by simpa using hrun)).2 ?_
    rw [setOwner_engine]
    split
    · simpa using together
    · simpa using together.disengage
  | switchPoint =>
    refine (takeSwitchPoint_keeps (inv := fun t => TransitionSound t) (mid := fun u => RatesSound u ∧ TransitionSound u)
      ⟨by simpa [ratesSound_iff] using hr, transitionSound_of_same hs (by simp) (by simp) (by simp)⟩
      (fun a h => ⟨ratesSound_fieldAct a h.1, transitionSound_fieldAct a h.1 h.2⟩)
      (fun _ => transitionSound_of_same hs (by simp) (by simp) (by simp)) ?_ ?_ ?_)
    · exact fun u _ _ h => transitionSound_of_same (transitionSound_fieldAct (.expire u fun _ => true) h.1 h.2) (by simp) (by simp) (by simp)
    · intro u _ _ h
      have expired := transitionSound_fieldAct (.expire u fun _ => true) h.1 h.2
      have counted : TransitionSound (countListening (expireWhere (fun _ => true) u)) := by
        simp only [countListening]
        split
        · exact transitionSound_revise expired rfl rfl (by simp)
        · exact transitionSound_of_same expired rfl rfl id
      exact transitionSound_of_same counted (by simp) (by simp) (by simp)
    · exact fun u _ _ h => transitionSound_of_same (transitionSound_fieldAct (.expire u fun _ => true) h.1 h.2) (by simp) (by simp) (by simp)
  | _ => exact same (by simp) (by simp) (by simp)

end Sys2Proof.Machine

namespace Sys2Proof.Invariants

open Sys2Proof Sys2Proof.Machine Sys2Proof.Safety

/-- Settles O55: the engine leaves the order, and a KEYSET moves its layer within it. -/
theorem stepsKeepTheStackAPermutation : Obligations.StepsKeepTheStackAPermutation := keptByStep_of_act stackSound_act

/-- Settles O56: every operation of the engine leaves it and the layers sound together, an own key mix between its ends for the rates
that the layers hold. -/
theorem stepsKeepProgressAndLevelsSound : Obligations.StepsKeepProgressAndLevelsSound :=
  keptByStep_of_act fun h ⟨hl, hr, hs⟩ => ⟨loaderSound_act h hl, ratesSound_act h hr, transitionSound_act h hl hr hs⟩

end Sys2Proof.Invariants
end

section
/-! PROOF. The selected and effective sources, the source sets and the tally: what every act makes of them. -/

namespace Sys2Proof.Machine

open Sys2Proof.Safety

/-! ## Sources a station may select (R87 to R89) -/

/-- A source a bus may hold: one the station can show, and not its own programme number. -/
def Crosspoint.Allows (c : Crosspoint) (n : Source) : Prop := c.canShow n = true ∧ c.programme ≠ some n

/-- The own programme number is none of BLACK and MATTE, and every backup is a source that a bus may hold, other than the source it backs
(R82, R85). -/
structure Crosspoint.Configured (c : Crosspoint) : Prop where
  programme : ∀ p, c.programme = some p → 2 ≤ p.val
  backups : ∀ n e b, c.entry n = some e → e.backup = some b → c.Allows b ∧ b ≠ n

/-- Every bus holds, and held before, a source it may hold. -/
def Crosspoint.Selects (c : Crosspoint) : Prop := ∀ b, c.Allows (c.buses.get b).selected ∧ c.Allows (c.buses.get b).previous

/-- Every effective source is the resolution of its selection. -/
def Crosspoint.Resolved (c : Crosspoint) (m : Monitor) : Prop :=
  ∀ b, (c.buses.get b).effective = resolveSource c m (c.buses.get b).selected

theorem sourcesSound_iff {s : State} : SourcesSound s ↔ s.crosspoint.Configured ∧ s.crosspoint.Selects ∧
    s.crosspoint.Resolved s.monitor ∧ (s.loader.state = .loading → s.crosspoint.buses = Buses.reset) :=
  ⟨fun ⟨sel, res, prog, back, reset⟩ => ⟨⟨prog, back⟩, sel, res, reset⟩,
    fun ⟨⟨prog, back⟩, sel, res, reset⟩ => ⟨sel, res, prog, back, reset⟩⟩

theorem Crosspoint.Configured.allows_black {c : Crosspoint} (h : c.Configured) : c.Allows 0 :=
  ⟨rfl, fun hp => absurd (h.programme 0 hp) (by decide)⟩

/-- The buses are no part of what a station may select. -/
theorem Crosspoint.Configured.withBuses {c : Crosspoint} (h : c.Configured) (b : Buses) : { c with buses := b }.Configured :=
  ⟨h.programme, h.backups⟩

@[simp] theorem Crosspoint.allows_withBuses (c : Crosspoint) (b : Buses) (n : Source) : { c with buses := b }.Allows n ↔ c.Allows n :=
  Iff.rfl

theorem Crosspoint.Selects.set {c : Crosspoint} (h : c.Selects) (bus : Bus) {r : BusRecord} (hs : c.Allows r.selected)
    (hp : c.Allows r.previous) : { c with buses := c.buses.set bus r }.Selects := by
  intro b
  by_cases hb : b = bus
  · subst hb
    simpa using And.intro hs hp
  · simpa [hb] using h b

theorem Crosspoint.Selects.swap {c : Crosspoint} (h : c.Selects) : { c with buses := swapBuses c.buses }.Selects := by
  intro b
  cases b with
  | pgm => exact ⟨(h .pst).1, (h .pgm).1⟩
  | pst => exact ⟨(h .pgm).1, (h .pst).1⟩
  | k1f => exact h .k1f
  | k1s => exact h .k1s
  | k2f => exact h .k2f
  | k2s => exact h .k2s
  | k3f => exact h .k3f
  | k3s => exact h .k3s
  | k4f => exact h .k4f
  | k4s => exact h .k4s

/-- What the selections of a station keep of one act to the next: its programme number and map, and buses that hold what they may. -/
structure Crosspoint.Keeps (c c' : Crosspoint) : Prop where
  programme : c'.programme = c.programme
  map : c'.map = c.map
  selects : c.Selects → c'.Selects

theorem Crosspoint.Keeps.refl (c : Crosspoint) : c.Keeps c := ⟨rfl, rfl, id⟩

theorem Crosspoint.Keeps.trans {c d e : Crosspoint} (h : c.Keeps d) (h' : d.Keeps e) : c.Keeps e :=
  ⟨h'.programme.trans h.programme, h'.map.trans h.map, fun hs => h'.selects (h.selects hs)⟩

theorem Crosspoint.Configured.keeps {c c' : Crosspoint} (h : c.Configured) (hk : c.Keeps c') : c'.Configured := by
  have same : c' = { c with buses := c'.buses } := by
    rw [← hk.programme, ← hk.map]
  rw [same]
  exact h.withBuses _

theorem EngineActs.crosspoint {s t : State} (h : EngineActs s t) : s.crosspoint.Keeps t.crosspoint := by
  induction h with
  | refl => exact .refl _
  | tail _ h ih =>
    refine ih.trans ?_
    cases h with
    | complete =>
      simp only [complete, State.setCrosspoint_crosspoint]
      split
      · exact ⟨rfl, rfl, fun hs => hs.swap⟩
      · exact .refl _
    | _ => exact .refl _

/-- An accepted selection is a source the bus may hold, and so is what it held before (R91). -/
theorem selectRefusal_allows {s : State} {n : Source} (h : selectRefusal s n = none) : s.crosspoint.Allows n := by
  unfold selectRefusal at h
  split at h
  · cases h
  · next hs =>
    split at h
    · cases h
    · next hp => exact ⟨not_not.1 hs, hp⟩

theorem accept_keeps {s : State} {bus : Bus} {n : Source} (h : selectRefusal s n = none) (sender : Station) :
    s.crosspoint.Keeps { s.crosspoint with
      buses := s.crosspoint.buses.set bus ((s.crosspoint.buses.get bus).accept n sender) } := by
  refine ⟨rfl, rfl, fun hs => hs.set bus ?_ ?_⟩
  all_goals
    unfold BusRecord.accept
    split
  · exact (hs bus).1
  · exact selectRefusal_allows h
  · exact (hs bus).2
  · exact (hs bus).1

/-- A reverted bus holds BLACK or the source it held before (R96). -/
theorem revertBus_keeps {s : State} (h : s.crosspoint.Configured) (named : List Source) (bus : Bus) :
    s.crosspoint.Keeps (revertBus named s bus).crosspoint := by
  simp only [revertBus]
  split
  · simp only [refuseLoopBroken_frame, State.setCrosspoint_crosspoint]
    refine ⟨rfl, rfl, fun hs => hs.set bus ?_ h.allows_black⟩
    unfold BusRecord.revert
    split
    · exact h.allows_black
    · exact (hs bus).2
  · exact .refl _

theorem FieldAct.crosspoint {s t : State} (h : FieldAct s t) (hc : s.crosspoint.Configured) : s.crosspoint.Keeps t.crosspoint := by
  have same (ht : t.crosspoint = s.crosspoint) : s.crosspoint.Keeps t.crosspoint := ht ▸ .refl _
  cases h with
  | engine => exact (advanceEngine_acts s).crosspoint
  | revert named bus => exact revertBus_keeps hc named bus
  | applied _ e _ _ ho =>
    rcases (offer_act ho).engineActs with ha | ⟨bus, n, hr, rfl⟩ | ⟨_, _, -, rfl⟩ | ⟨_, _, -, rfl⟩ | ⟨_, rfl⟩
    · exact ha.crosspoint
    · exact accept_keeps hr e.sender
    · exact same rfl
    · exact same rfl
    · exact same rfl
  | _ => exact same (by simp)

/-! ## Configurations (R82 to R85, R183, R184) -/

theorem Crosspoint.entry_configure (x : Crosspoint) (c : Configuration) (n : Source) :
    (x.configure c).entry n = if n.val < 2 then none else c.map.getD (n.val - 2) none := rfl

theorem getD_none_eq_some {α : Type} {l : List (Option α)} {i : Nat} {x : α} (h : l.getD i none = some x) :
    l[i]? = some (some x) := by
  rw [List.getD_eq_getElem?_getD] at h
  cases hl : l[i]? with
  | none => simp [hl] at h
  | some o => simpa [hl] using h

/-- The default map has no backups. -/
theorem defaultMap_backup {i : Nat} {e : MapEntry} (h : defaultMap[i]? = some (some e)) : e.backup = none := by
  simp only [defaultMap, List.getElem?_map, Option.map_eq_some_iff] at h
  obtain ⟨k, -, input, -, rfl⟩ := h
  rfl

theorem default_configured (x : Crosspoint) (station : Station) : (x.configure (.default station)).Configured := by
  refine ⟨fun p hp => ?_, fun n e b he hb => ?_⟩
  · cases hp
    exact Nat.le_trans (by decide) (Nat.le_add_right 48 station.val)
  · rw [Crosspoint.entry_configure] at he
    split at he
    · cases he
    · simp [defaultMap_backup (getD_none_eq_some he)] at hb

theorem readConfiguration_programme (station : Station) (content : List Byte) :
    2 ≤ (readConfiguration station content).programme.val := by
  simp only [readConfiguration]
  repeat' split
  · assumption
  all_goals simp only [defaultProgramme]; omega

theorem readConfiguration_configured (x : Crosspoint) (station : Station) (content : List Byte) :
    (x.configure (readConfiguration station content)).Configured := by
  refine ⟨fun p hp => ?_, fun n e b he hb => ?_⟩
  · cases hp
    exact readConfiguration_programme station content
  · rw [Crosspoint.entry_configure] at he
    split at he
    · cases he
    · obtain ⟨y, hy, rfl⟩ := validateMap_mapped_iff.1 (getD_none_eq_some he)
      obtain ⟨-, hne, hown, hmapped⟩ := settleBackup_backup_iff.1 hb
      refine ⟨⟨?_, fun hp => hne (Option.some.inj hp).symm⟩, fun hbn => hown (by rw [hbn]; omega)⟩
      rw [Crosspoint.canShow, Crosspoint.entry_configure]
      by_cases h2 : b.val < 2
      · simp [h2]
      · obtain ⟨e', he'⟩ := validateMap_isMapped_iff.2 (hmapped.resolve_left h2)
        have held := isSome_getD_none_iff.2 ⟨e', he'⟩
        rw [if_neg h2, show decide (b.val < 2) = false from decide_eq_false h2, Bool.false_or]
        exact held

theorem Loadable.configured {station : Station} {c : Configuration} (h : Loadable station c) (x : Crosspoint) :
    (x.configure c).Configured := by
  rcases h with rfl | ⟨content, rfl⟩
  · exact default_configured x station
  · exact readConfiguration_configured x station content

/-! ## Health states outside a switch point (R107) -/

/-- Two Monitors with the same health states. -/
def Monitor.SameHealth (m m' : Monitor) : Prop := ∀ i, (m'.get i).health = (m.get i).health

theorem resolveSource_sameHealth {m m' : Monitor} (h : m.SameHealth m') (c : Crosspoint) (n : Source) :
    resolveSource c m' n = resolveSource c m n := by
  have failed (n : Source) : sourceFailed c m' n = sourceFailed c m n := by
    unfold sourceFailed
    split
    · rfl
    · rw [h]
  simp only [resolveSource, failed, h _]

theorem Crosspoint.Resolved.sameHealth {c : Crosspoint} {m m' : Monitor} (h : c.Resolved m) (hm : m.SameHealth m') : c.Resolved m' :=
  fun b => by rw [h b, resolveSource_sameHealth hm]

/-- Records changed each by a function that keeps the health state. -/
theorem Monitor.sameHealth_map (m : Monitor) {m' : Monitor} {f : InputRecord → InputRecord}
    (hm : m'.inputs = m.inputs.map f) (hf : ∀ r, (f r).health = r.health) : m.SameHealth m' := by
  intro i
  simp only [get, hm, List.getD_eq_getElem?_getD, List.getElem?_map]
  cases m.inputs[i.val]? with
  | none => rfl
  | some r => exact hf r

theorem InputAct.health {raster : Raster} {window : Nat} {r r' : InputRecord} (h : InputAct raster window r r') :
    r'.health = r.health := by
  cases h with
  | arrive l => unfold InputRecord.arrive; split <;> rfl
  | absence => rfl
  | leak => unfold InputRecord.leak; split <;> rfl

theorem Monitor.sameHealth_modify (m : Monitor) (i : InputNo) {f : InputRecord → InputRecord}
    (hf : ∀ r, (f r).health = r.health) : m.SameHealth (m.modify i f) := by
  intro j
  rcases m.get_modify_or i j f with h | h <;> rw [h]
  exact hf _

theorem Monitor.sameHealth_tick (m : Monitor) : m.SameHealth m.tick := by
  unfold tick
  split
  · exact m.sameHealth_map rfl fun _ => rfl
  · exact fun _ => rfl

theorem InputRecord.serve_health (r : InputRecord) (n : Nat) : (r.serve n).2.health = r.health := by
  unfold serve
  split <;> rfl

theorem beginLine_sameHealth (s : State) : s.monitor.SameHealth (beginLine s).monitor := by
  simp only [beginLine]
  split
  · exact s.monitor.sameHealth_map (f := fun r => (r.serve s.raster.line).2) (by simp) fun r => r.serve_health _
  · exact fun _ => rfl

/-! ## What a field derives (R13, R14, R93) -/

theorem deriveField_crosspoint (s : State) :
    (deriveField s).crosspoint = { s.crosspoint with buses := resolveBuses s.crosspoint s.monitor s.crosspoint.buses } := rfl

/-- A field's crosspoint resolves every selection, and holds the selections as they stood. -/
theorem resolveBuses_resolved (c : Crosspoint) (m : Monitor) : { c with buses := resolveBuses c m c.buses }.Resolved m := by
  intro b
  simp only [resolveBuses, Buses.get_map]
  rfl

theorem resolveBuses_keeps (c : Crosspoint) (m : Monitor) : c.Keeps { c with buses := resolveBuses c m c.buses } :=
  ⟨rfl, rfl, fun hs b => by simpa [resolveBuses] using hs b⟩

theorem deriveField_setsSound (s : State) : SetsSound (deriveField s) := ⟨rfl, rfl⟩

/-- The sets see of the composition its effective sources, the engine's state and selection, and the layers' states and levels. -/
theorem setsSound_congr {s t : State} (h : SetsSound s) (hx : t.sets = s.sets) (he : t.engine.state = s.engine.state)
    (hn : t.engine.selection = s.engine.selection) (hk : ∀ l, (t.keys.get l).state = (s.keys.get l).state ∧
      (t.keys.get l).level = (s.keys.get l).level) (hb : t.crosspoint.buses = s.crosspoint.buses) : SetsSound t := by
  obtain ⟨contribution, next⟩ := h
  simp only [SetsSound, hx, hb, contributionSet, nextContributionSet, Engine.movesBackground, layerSources, previewSource,
    previewLevel, he, hn, hk]
  exact ⟨contribution, next⟩

/-! ## Every act keeps them -/

theorem reviseOwner_engine_state (s : State) :
    (reviseOwner s).engine.state = s.engine.state ∧ (reviseOwner s).engine.selection = s.engine.selection := by
  rcases reviseOwner_engine s with h | ⟨h, -⟩ <;> rw [h] <;> exact ⟨rfl, rfl⟩

theorem sourcesSound_of_same {s t : State} (h : SourcesSound s ∧ SetsSound s) (hc : t.crosspoint = s.crosspoint)
    (hm : s.monitor.SameHealth t.monitor) (hx : t.sets = s.sets)
    (he : t.engine.state = s.engine.state ∧ t.engine.selection = s.engine.selection)
    (hk : ∀ l, (t.keys.get l).state = (s.keys.get l).state ∧ (t.keys.get l).level = (s.keys.get l).level)
    (hl : t.loader.state = .loading → s.loader.state = .loading) : SourcesSound t ∧ SetsSound t := by
  obtain ⟨sources, sets⟩ := h
  obtain ⟨configured, selects, resolved, reset⟩ := sourcesSound_iff.1 sources
  refine ⟨sourcesSound_iff.2 ?_, setsSound_congr sets hx he.1 he.2 hk (by rw [hc])⟩
  rw [hc]
  exact ⟨configured, selects, resolved.sameHealth hm, fun h => reset (hl h)⟩

/-- A crosspoint that is resolved anew is sound once its selections are, and the sets are taken from it. -/
theorem sourcesSound_derived {u t : State} (hc : u.crosspoint.Configured) (hs : u.crosspoint.Selects)
    (ht : t.crosspoint = { u.crosspoint with buses := resolveBuses u.crosspoint u.monitor u.crosspoint.buses })
    (hm : t.monitor = u.monitor) (hl : t.loader.state = .loading → u.crosspoint.buses = Buses.reset) (hx : SetsSound t) :
    SourcesSound t ∧ SetsSound t := by
  refine ⟨sourcesSound_iff.2 ?_, hx⟩
  rw [ht, hm]
  exact ⟨hc.withBuses _, (resolveBuses_keeps _ _).selects hs, resolveBuses_resolved _ _, fun h => by simp only [hl h]; rfl⟩

theorem resetBuses_get (b : Bus) : Buses.reset.get b = BusRecord.reset := by cases b <;> rfl

/-- The end of LOADING leaves the buses as at reset, under whatever map comes into force. -/
theorem sourcesSound_loaded {s : State} {station : Station} {c : Configuration} {isDefault : Bool} (hc : Loadable station c)
    (h : SourcesSound s ∧ SetsSound s) (hl : s.loader.state = .loading) :
    SourcesSound (applyConfiguration c isDefault s) ∧ SetsSound (applyConfiguration c isDefault s) := by
  obtain ⟨-, -, -, reset⟩ := sourcesSound_iff.1 h.1
  have crosspoint : (applyConfiguration c isDefault s).crosspoint = s.crosspoint.configure c := by simp [applyConfiguration]
  have buses : (s.crosspoint.configure c).buses = Buses.reset := reset hl
  refine ⟨sourcesSound_iff.2 ?_, setsSound_congr h.2 (by simp) (by rw [applyConfiguration_engine]; rfl)
    (by rw [applyConfiguration_engine]; rfl) (fun l => ?_) (by rw [crosspoint]; rfl)⟩
  · rw [crosspoint]
    refine ⟨hc.configured _, fun b => ?_, fun b => ?_, fun _ => buses⟩
    · rw [buses, resetBuses_get]
      exact ⟨(hc.configured _).allows_black, (hc.configured _).allows_black⟩
    · rw [buses, resetBuses_get]
      rfl
  · rw [applyConfiguration_keys, KeyUnit.configure_get]
    exact ⟨rfl, rfl⟩

theorem reset_entry (n : Source) : Crosspoint.reset.entry n = none := by
  simp only [Crosspoint.entry, Crosspoint.reset, List.getD_eq_getElem?_getD]
  split
  · rfl
  · cases h : (List.replicate 62 (none : Option MapEntry))[n.val - 2]? with
    | none => rfl
    | some o => simpa using (List.mem_replicate.1 (List.mem_of_getElem? h)).2

theorem reset_sourcesSound : SourcesSound State.reset ∧ SetsSound State.reset := by
  have configured : Crosspoint.reset.Configured :=
    ⟨fun p hp => (by cases hp), fun n e b he => by cases (reset_entry n).symm.trans he⟩
  refine ⟨sourcesSound_iff.2 ⟨configured, fun b => ?_, fun b => ?_, fun _ => rfl⟩, by unfold SetsSound; decide⟩
  · rw [show State.reset.crosspoint.buses.get b = BusRecord.reset from resetBuses_get b]
    exact ⟨configured.allows_black, configured.allows_black⟩
  · rw [show State.reset.crosspoint.buses.get b = BusRecord.reset from resetBuses_get b]
    rfl

theorem sourcesSound_act {s t : State} (h : Act s t) (hl : LoaderSound s) (hs : SourcesSound s ∧ SetsSound s) :
    SourcesSound t ∧ SetsSound t := by
  have same (hc : t.crosspoint = s.crosspoint) (hm : t.monitor = s.monitor) (hx : t.sets = s.sets) (he : t.engine = s.engine)
      (hk : t.keys = s.keys) (hl : t.loader.state = .loading → s.loader.state = .loading) : SourcesSound t ∧ SetsSound t :=
    sourcesSound_of_same hs hc (fun i => by rw [hm]) hx (by rw [he]; exact ⟨rfl, rfl⟩) (fun l => by rw [hk]; exact ⟨rfl, rfl⟩) hl
  have health (hm : s.monitor.SameHealth t.monitor) (hc : t.crosspoint = s.crosspoint) (hx : t.sets = s.sets) (he : t.engine = s.engine)
      (hk : t.keys = s.keys) (hl : t.loader.state = .loading → s.loader.state = .loading) : SourcesSound t ∧ SetsSound t :=
    sourcesSound_of_same hs hc hm hx (by rw [he]; exact ⟨rfl, rfl⟩) (fun l => by rw [hk]; exact ⟨rfl, rfl⟩) hl
  have owner (he : t.engine.state = s.engine.state ∧ t.engine.selection = s.engine.selection) (hc : t.crosspoint = s.crosspoint)
      (hm : t.monitor = s.monitor) (hx : t.sets = s.sets) (hk : t.keys = s.keys)
      (hl : t.loader.state = .loading → s.loader.state = .loading) : SourcesSound t ∧ SetsSound t :=
    sourcesSound_of_same hs hc (fun i => by rw [hm]) hx he (fun l => by rw [hk]; exact ⟨rfl, rfl⟩) hl
  obtain ⟨configured, selects, -, reset⟩ := sourcesSound_iff.1 hs.1
  cases h with
  | reset =>
    exact sourcesSound_of_same reset_sourcesSound rfl (fun _ => rfl) rfl ⟨rfl, rfl⟩ (fun _ => ⟨rfl, rfl⟩) fun _ => rfl
  | release _ _ ha => exact same rfl rfl rfl rfl rfl fun _ => hl.1 ha
  | releaseDefaults station final ha =>
    have read : SourcesSound (readStraps station final .defaults s) ∧ SetsSound (readStraps station final .defaults s) :=
      sourcesSound_of_same hs rfl (fun _ => rfl) rfl ⟨rfl, rfl⟩ (fun _ => ⟨rfl, rfl⟩) id
    exact sourcesSound_loaded (.inl rfl) read (hl.1 ha)
  | load c isDefault _ hlo hc => exact sourcesSound_loaded hc hs hlo
  | enter =>
    exact sourcesSound_derived (u := enterRunning s) (by simpa using configured) (by simpa using selects)
      (by simp [deriveField_crosspoint]) (by simp) (by simp) ⟨by simp [deriveField, deriveSets], by simp [deriveField, deriveSets]⟩
  | line r =>
    exact health (by simpa using beginLine_sameHealth (s.setRaster r)) (by simp) (by simp) (by simp) (by simp) (by simp)
  | input i f _ hf => exact health (s.monitor.sameHealth_modify i fun r => (hf r).health) rfl rfl rfl rfl id
  | tick => exact health s.monitor.sameHealth_tick rfl rfl rfl rfl id
  | complete =>
    have keeps := (EngineAct.complete s).acts.crosspoint
    refine sourcesSound_derived (u := complete s) (configured.keeps keeps) (keeps.selects selects) rfl rfl (fun hlo => ?_) ⟨rfl, rfl⟩
    have before : s.crosspoint.buses = Buses.reset := reset (by simpa using hlo)
    simp only [complete, State.setCrosspoint_crosspoint]
    split
    · simp only [before]
      rfl
    · exact before
  | expire | delegate | standing =>
    exact owner (reviseOwner_engine_state _) (by simp) (by simp) (by simp) (by simp) (by simp)
  | own p =>
    refine owner ?_ (by simp) (by simp) (by simp) (by simp) (by simp)
    rw [setOwner_engine]
    split <;> exact ⟨rfl, rfl⟩
  | duplicate => exact same (by simp) (by simp) (by simp) (by simp) (by simp) (by rw [hearDuplicate_loader]; split <;> simp)
  | switchPoint =>
    have derived {u t : State} (hu : u.crosspoint.Configured ∧ u.crosspoint.Selects)
        (ht : t.crosspoint = (deriveField u).crosspoint) (hm : t.monitor = u.monitor) (hx : t.sets = (deriveField u).sets)
        (he : t.engine = u.engine) (hk : t.keys = u.keys) (hl : t.loader.state ≠ .loading) : SourcesSound t ∧ SetsSound t :=
      sourcesSound_derived hu.1 hu.2 ht hm (fun h => absurd h hl)
        (setsSound_congr (deriveField_setsSound u) hx (by rw [he]; simp) (by rw [he]; simp) (fun l => by rw [hk]; simp) (by rw [ht]))
    refine takeSwitchPoint_keeps (inv := fun t => SourcesSound t ∧ SetsSound t)
      (mid := fun u => u.crosspoint.Configured ∧ u.crosspoint.Selects) (by simpa using ⟨configured, selects⟩)
      (fun a h => ⟨h.1.keeps (a.crosspoint h.1), (a.crosspoint h.1).selects h.2⟩)
      (fun h => sourcesSound_of_same hs rfl (fun _ => rfl) rfl ⟨rfl, rfl⟩ (fun _ => ⟨rfl, rfl⟩) fun _ => h)
      (fun u hu hr h => ?_) (fun u hu hr h => ?_) (fun u hu hr h => ?_)
    · exact derived (u := expireWhere (fun _ => true) u) (by simpa using h) (by simp) (by simp) (by simp) (by simp) (by simp)
        (by simp [hu, hr])
    · refine derived (u := countListening (expireWhere (fun _ => true) u)) (by simpa using h) (by simp) (by simp) (by simp) (by simp)
        (by simp) ?_
      simp only [noteAnnounced_frame, deriveField_frame, countListening_loader, expireWhere_frame, hu, hr]
      split <;> simp
    · exact derived (u := expireWhere (fun _ => true) u) (by simpa using h) (by simp) (by simp) (by simp) (by simp) (by simp)
        (by simp [hu, hr])
  | clearDuplicate => exact same rfl rfl rfl rfl rfl id
  | _ => exact same (by simp) (by simp) (by simp) (by simp) (by simp) (by simp)

/-! ## The tally (R169 to R173) -/

theorem tallyOf_disjoint (s : State) : (tallyOf s).onAir &&& (tallyOf s).preview = 0#64 := by
  ext i
  simp only [tallyOf, previewSet, BitVec.getElem_and, BitVec.getElem_not, BitVec.getElem_zero]
  cases (onAirSet (tallyNodes s))[i] <;> simp

theorem tallyOf_lines_length (s : State) : (tallyOf s).lines.length = 12 := by simp [tallyOf]

theorem tallyOf_lines_dark {s : State} (h : s.loader.state ≠ .running) : ∀ x ∈ (tallyOf s).lines, x = .dark := by
  simp only [tallyOf, List.mem_map]
  rintro x ⟨i, -, rfl⟩
  simp [tallyLine, h]

theorem deriveField_tally (s : State) : (deriveField s).tally = tallyOf (deriveSets (resolveSources s)) := rfl

/-- A tally just taken is sound. -/
theorem tallySound_derived {u t : State} (ht : t.tally = (deriveField u).tally) (hl : t.loader = u.loader) : TallySound t := by
  rw [TallySound, ht, hl, deriveField_tally]
  exact ⟨tallyOf_disjoint _, tallyOf_lines_length _, fun h => tallyOf_lines_dark (by simpa using h)⟩

theorem tallySound_act {s t : State} (h : Act s t) (hl : LoaderSound s) (hs : TallySound s) : TallySound t := by
  have same (ht : t.tally = s.tally) (hr : t.loader.state ≠ .running → s.loader.state ≠ .running) : TallySound t := by
    obtain ⟨disjoint, length, dark⟩ := hs
    rw [TallySound, ht]
    exact ⟨disjoint, length, fun h => dark (hr h)⟩
  cases h with
  | reset => exact ⟨show Tally.reset.onAir &&& Tally.reset.preview = 0#64 by decide, rfl,
      fun _ => by simp [assertReset, State.reset, Tally.reset]⟩
  | releaseDefaults _ _ ha => exact same (by simp [applyDefaults, readStraps]) fun _ => by simp [hl.1 ha]
  | load _ _ _ hlo => exact same (by simp) fun _ => by simp [hlo]
  | enter => exact tallySound_derived (u := enterRunning s) (by simp) (by simp)
  | duplicate => exact same (by simp) fun h hr => h (by simp [hearDuplicate_loader, hr])
  | switchPoint =>
    refine takeSwitchPoint_keeps (inv := TallySound) (mid := fun _ => True) trivial (fun _ _ => trivial) (fun _ => hs) ?_ ?_ ?_
    · exact fun u _ _ _ => tallySound_derived (u := expireWhere (fun _ => true) u) (by simp) (by simp)
    · exact fun u _ _ _ => tallySound_derived (u := countListening (expireWhere (fun _ => true) u)) (by simp) (by simp)
    · exact fun u _ _ _ => tallySound_derived (u := expireWhere (fun _ => true) u) (by simp) (by simp)
  | release | clearDuplicate => exact same rfl id
  | _ => exact same (by simp) (by simp)

end Sys2Proof.Machine

namespace Sys2Proof.Invariants

open Sys2Proof Sys2Proof.Machine Sys2Proof.Safety

/-- Settles O57: no act puts a source on a bus that it may not hold, and a field's effective sources and sets are derived from what
the field is. -/
theorem stepsKeepTheSourcesSound : Obligations.StepsKeepTheSourcesSound :=
  keptByStep_of_act fun h ⟨hl, hs⟩ => ⟨loaderSound_act h hl, sourcesSound_act h hl hs⟩

/-- Settles O59: a tally just taken is sound, and no act lights a line of it outside RUNNING. -/
theorem stepsKeepTheTallySound : Obligations.StepsKeepTheTallySound :=
  keptByStep_of_act fun h ⟨hl, hs⟩ => ⟨loaderSound_act h hl, tallySound_act h hl hs⟩

end Sys2Proof.Invariants
end

section
/-! PROOF. The Input Condition Monitor and the outputs: every act keeps each input's record in its ranges, and every sample of both outputs
within the limits in force. -/

namespace Sys2Proof.Machine

open Sys2Proof.Safety

/-! ## One input (R99 to R107) -/

/-- An input's record in its ranges, under a window, a threshold and its eligibility. -/
abbrev InputRecord.SoundIn (r : InputRecord) (window threshold : Nat) (eligible : Bool) : Prop :=
  InputRecord.Sound window threshold eligible r

section
variable {window threshold : Nat} {eligible : Bool} {r r' : InputRecord} (h : r.SoundIn window threshold eligible)
include h

/-- A record that has its buffer, its flags or no part of it changed. -/
theorem InputRecord.SoundIn.congr (hb : r'.buffer.length ≤ window) (hc : r'.count = r.count) (hd : r'.divider = r.divider)
    (hl : r'.leakDivider = r.leakDivider) (hh : r'.health = r.health) : r'.SoundIn window threshold eligible := by
  obtain ⟨-, count, divider, health⟩ := h
  exact ⟨hb, hc ▸ count, hd ▸ hl ▸ divider, by rw [hh, hc]; exact health⟩

theorem InputRecord.SoundIn.arrive (hw : 1 ≤ window) (raster : Raster) (l : VideoLine) :
    (r.arrive raster window l).SoundIn window threshold eligible := by
  have buffer := h.1
  unfold InputRecord.arrive
  split
  · exact h.congr buffer rfl rfl rfl rfl
  · refine h.congr ?_ rfl rfl rfl rfl
    split
    · unfold bufferAppend
      split <;> simp <;> omega
    · exact buffer

/-- Within its range a divider has not counted D + 1 ticks (R105). -/
theorem InputRecord.SoundIn.leak_eq : r.leak = r := by
  obtain ⟨-, -, divider, -⟩ := h
  exact if_neg (by omega)

theorem InputRecord.SoundIn.act (hw : 1 ≤ window) {raster : Raster} (a : InputAct raster window r r') :
    r'.SoundIn window threshold eligible := by
  cases a with
  | arrive l => exact h.arrive hw raster l
  | absence => exact h.congr h.1 rfl rfl rfl rfl
  | leak => rwa [h.leak_eq]

/-- A line read leaves a part of the buffer (R101). -/
theorem InputRecord.SoundIn.serve (n : Nat) : (r.serve n).2.SoundIn window threshold eligible := by
  have buffer := h.1
  unfold InputRecord.serve bufferRead
  cases hd : r.buffer.dropWhile fun l => l.line != n with
  | nil => exact h.congr buffer rfl rfl rfl rfl
  | cons l rest =>
    have := (List.dropWhile_sublist (l := r.buffer) fun l => l.line != n).length_le
    rw [hd, List.length_cons] at this
    exact h.congr (by simp only; omega) rfl rfl rfl rfl

theorem InputRecord.SoundIn.clearField : r.clearField.SoundIn window threshold eligible := h.congr h.1 rfl rfl rfl rfl

/-- The verdict of a field, and the leak that may come before it, keep a record in its ranges (R105 to R107). -/
theorem InputRecord.SoundIn.judge (ticks : Bool) :
    ((r.countTick ticks).leak.judge threshold eligible).SoundIn window threshold eligible := by
  obtain ⟨buffer, count, divider, health⟩ := h
  refine ⟨by rwa [judge_leak_buffer], ?_, ?_, ?_⟩
  · rw [judge_leak_count]
    refine countAfterVerdict_le ?_
    split
    · exact (Nat.sub_le ..).trans count
    · exact count
  · have kept : ((r.countTick ticks).leak.judge threshold eligible).leakDivider = r.leakDivider := by
      rw [InputRecord.leak_eq]
      rfl
    rw [judge_leak_divider, kept]
    simp only [countTick_due_iff ticks divider]
    split
    · exact Nat.zero_le _
    · next hn =>
      cases ticks with
      | false => exact divider
      | true => exact Nat.lt_of_le_of_ne divider fun he => hn ⟨rfl, he⟩
  · rw [judge_leak_health]
    rcases health with ⟨failed, may⟩ | health
    · exact .inl ⟨by rw [show (r.countTick ticks).health = .failed from failed, healthAfter_failed], may⟩
    · by_cases hf : r.health = .failed
      · by_cases may : eligible = true
        · exact .inl ⟨by rw [show (r.countTick ticks).health = .failed from hf, healthAfter_failed], may⟩
        · rw [hf] at health
          unfold healthAfter at health
          repeat' split at health
          all_goals simp_all
      · refine .inr ?_
        simp only [healthAfter, show (r.countTick ticks).health = r.health from rfl, hf, if_false, reduceCtorEq]

end

/-! ## The Monitor (R99, R105, R111) -/

/-- Every input in its ranges, and the primary leak counter in its own. -/
structure Monitor.Fit (m : Monitor) (c : Crosspoint) : Prop where
  length : m.inputs.length = 12
  window : 1 ≤ m.window
  threshold : 1 ≤ m.threshold
  primary : if m.period = 0 then m.primary = 0 else m.primary < m.period
  inputs : ∀ i, (m.get i).SoundIn m.window m.threshold (c.eligible i)

/-- Nothing has been counted (R111). -/
def Monitor.Unused (m : Monitor) : Prop := m.primary = 0 ∧ ∀ r ∈ m.inputs, r.count = 0 ∧ r.divider = 0 ∧ r.health = .clean

theorem monitorSound_iff {s : State} :
    MonitorSound s ↔ s.monitor.Fit s.crosspoint ∧ (s.loader.state = .loading → s.monitor.Unused) :=
  ⟨fun ⟨l, w, t, p, i, u⟩ => ⟨⟨l, w, t, p, i⟩, u⟩, fun ⟨⟨l, w, t, p, i⟩, u⟩ => ⟨l, w, t, p, i, u⟩⟩

/-- Eligibility is of the map alone (R99). -/
theorem Crosspoint.eligible_congr {c c' : Crosspoint} (h : c'.map = c.map) (i : InputNo) : c'.eligible i = c.eligible i := by
  simp only [eligible, entryNaming, h]

theorem Monitor.Fit.crosspoint {m : Monitor} {c c' : Crosspoint} (h : m.Fit c) (hc : c'.map = c.map) : m.Fit c' :=
  ⟨h.length, h.window, h.threshold, h.primary, fun i => by rw [Crosspoint.eligible_congr hc]; exact h.inputs i⟩

theorem Monitor.get_map {m m' : Monitor} {f : InputRecord → InputRecord} (hl : m.inputs.length = 12)
    (hm : m'.inputs = m.inputs.map f) (i : InputNo) : m'.get i = f (m.get i) := by
  have hi : i.val < m.inputs.length := by omega
  simp [get, hm, hi]

/-- Every record changed by one function that keeps records in their ranges. -/
theorem Monitor.Fit.map {m : Monitor} {c : Crosspoint} (h : m.Fit c) {f : InputRecord → InputRecord}
    (hf : ∀ i, (f (m.get i)).SoundIn m.window m.threshold (c.eligible i)) (gathering : Bool) :
    ({ m with inputs := m.inputs.map f, gathering := gathering } : Monitor).Fit c :=
  ⟨by simpa using h.length, h.window, h.threshold, h.primary, fun i => by rw [get_map h.length rfl]; exact hf i⟩

theorem Monitor.Fit.modify {m : Monitor} {c : Crosspoint} (h : m.Fit c) (i : InputNo) {f : InputRecord → InputRecord}
    (hf : (f (m.get i)).SoundIn m.window m.threshold (c.eligible i)) : (m.modify i f).Fit c := by
  refine ⟨by simpa using h.length, h.window, h.threshold, h.primary, fun j => ?_⟩
  rw [Monitor.get_modify _ _ _ _ h.length]
  split
  · next hj => rw [hj]; exact hf
  · exact h.inputs j

/-- Within its range the primary leak counter has not reached P (R105). -/
theorem Monitor.Fit.tick_eq {m : Monitor} {c : Crosspoint} (h : m.Fit c) : m.tick = m := by
  have primary := h.primary
  refine if_neg fun ⟨hp, hr⟩ => ?_
  split at primary <;> omega

theorem Monitor.Fit.update {m : Monitor} {c : Crosspoint} (h : m.Fit c) : (m.update c).Fit c := by
  have length : (m.update c).inputs.length = 12 := by simpa [Monitor.update, tick_advancePrimary] using h.length
  have shape : (m.update c).window = m.window ∧ (m.update c).threshold = m.threshold ∧ (m.update c).period = m.period := by
    simp [Monitor.update, tick_advancePrimary]
  obtain ⟨window, threshold, period⟩ := shape
  refine ⟨length, window ▸ h.window, threshold ▸ h.threshold, ?_, fun i => ?_⟩
  · have primary := h.primary
    rw [period, update_primary]
    by_cases hz : m.period = 0
    · simp [hz]
    · by_cases ht : m.ticks = true
      · simp [hz, ht, Nat.pos_of_ne_zero hz]
      · have still : ¬ (1 ≤ m.period ∧ m.period ≤ m.primary + 1) := fun hc => ht (decide_eq_true hc)
        rw [if_neg hz, if_neg (not_or.2 ⟨hz, ht⟩)]
        omega
  · rw [window, threshold, update_get m c (by rw [h.length]; exact i.isLt)]
    exact (h.inputs i).judge _

theorem Monitor.Unused.map {m m' : Monitor} (h : m.Unused) (hp : m'.primary = m.primary) {f : InputRecord → InputRecord}
    (hm : m'.inputs = m.inputs.map f) (hf : ∀ r, (f r).count = r.count ∧ (f r).divider = r.divider ∧ (f r).health = r.health) :
    m'.Unused := by
  refine ⟨hp.trans h.1, fun r hr => ?_⟩
  rw [hm] at hr
  obtain ⟨x, hx, rfl⟩ := List.mem_map.1 hr
  rw [(hf x).1, (hf x).2.1, (hf x).2.2]
  exact h.2 x hx

/-- At an input whose record is in its ranges an event changes no count, no divider and no health state. -/
theorem InputRecord.SoundIn.act_kept {window threshold : Nat} {eligible : Bool} {r r' : InputRecord}
    (h : r.SoundIn window threshold eligible) {raster : Raster} (a : InputAct raster window r r') :
    r'.count = r.count ∧ r'.divider = r.divider ∧ r'.health = r.health := by
  cases a with
  | arrive l => unfold InputRecord.arrive; split <;> exact ⟨rfl, rfl, rfl⟩
  | absence => exact ⟨rfl, rfl, rfl⟩
  | leak => rw [h.leak_eq]; exact ⟨rfl, rfl, rfl⟩

theorem Monitor.Unused.modify {m : Monitor} (h : m.Unused) (i : InputNo) {f : InputRecord → InputRecord} (hl : m.inputs.length = 12)
    (hf : (f (m.get i)).count = (m.get i).count ∧ (f (m.get i)).divider = (m.get i).divider ∧ (f (m.get i)).health = (m.get i).health) :
    (m.modify i f).Unused := by
  refine ⟨h.1, fun r hr => ?_⟩
  rcases List.mem_or_eq_of_mem_set hr with hr | rfl
  · exact h.2 r hr
  · have held : m.get i ∈ m.inputs := by
      have hi : i.val < m.inputs.length := by omega
      simp [get, hi]
    rw [hf.1, hf.2.1, hf.2.2]
    exact h.2 _ held

/-- A line that starts reads buffers alone (R101). -/
theorem beginLine_monitor (s : State) : (beginLine s).monitor = s.monitor ∨
    (beginLine s).monitor = { s.monitor with inputs := s.monitor.inputs.map fun r => (r.serve s.raster.line).2 } := by
  simp only [beginLine]
  split
  · exact .inr (by simp [Function.comp_def])
  · exact .inl rfl

theorem InputRecord.serve_kept (r : InputRecord) (n : Nat) :
    (r.serve n).2.count = r.count ∧ (r.serve n).2.divider = r.divider ∧ (r.serve n).2.health = r.health := by
  unfold serve
  split <;> exact ⟨rfl, rfl, rfl⟩

theorem monitorSound_beginLine {s : State} (h : MonitorSound s) : MonitorSound (beginLine s) := by
  obtain ⟨fit, unused⟩ := monitorSound_iff.1 h
  rw [monitorSound_iff, (beginLine_frame s).1, (beginLine_frame s).2.2.2.2.1]
  rcases beginLine_monitor s with hm | hm <;> rw [hm]
  · exact ⟨fit, unused⟩
  · exact ⟨fit.map (fun i => (fit.inputs i).serve _) _, fun hl => (unused hl).map rfl rfl fun r => r.serve_kept _⟩

/-- The configured A, T, P and D over inputs that have counted nothing (R99, R180). -/
theorem Monitor.Unused.configure {m : Monitor} (h : m.Unused) (hl : m.inputs.length = 12) {c : Configuration} (hc : c.InRange)
    (x : Crosspoint) : (m.configure c).Fit x := by
  refine ⟨by simpa [Monitor.configure] using hl, hc.window, hc.threshold, ?_, fun i => ?_⟩
  · change if c.period = 0 then m.primary = 0 else m.primary < c.period
    rw [h.1]
    split
    · rfl
    · next hz => exact Nat.pos_of_ne_zero hz
  · have hi : i.val < m.inputs.length := by omega
    obtain ⟨count, divider, health⟩ := h.2 m.inputs[i.val] (List.getElem_mem hi)
    have record : (m.configure c).get i = { m.inputs[i.val] with buffer := [], leakDivider := c.dividers.getD i.val 0 } := by
      simp [get, Monitor.configure, hi]
    rw [record]
    exact ⟨Nat.zero_le _, by simp [count], by simp [divider], .inr (by simp [count, health, healthAfter])⟩

/-! ### Every act keeps it -/

theorem monitorSound_of_same {s t : State} (h : MonitorSound s) (hm : t.monitor = s.monitor)
    (hc : t.crosspoint.map = s.crosspoint.map) (hl : t.loader.state = .loading → s.loader.state = .loading) : MonitorSound t := by
  rw [monitorSound_iff] at h ⊢
  rw [hm]
  exact ⟨h.1.crosspoint hc, fun ht => h.2 (hl ht)⟩

theorem FieldAct.map {s t : State} (h : FieldAct s t) : t.crosspoint.map = s.crosspoint.map := by
  have same (ht : t.crosspoint = s.crosspoint) : t.crosspoint.map = s.crosspoint.map := by rw [ht]
  cases h with
  | engine => exact (advanceEngine_acts s).crosspoint.map
  | revert named bus =>
    simp only [revertBus]
    split
    · simp
    · rfl
  | applied _ e _ _ ho =>
    rcases (offer_act ho).engineActs with ha | ⟨_, _, _, rfl⟩ | ⟨_, _, -, rfl⟩ | ⟨_, _, -, rfl⟩ | ⟨_, rfl⟩
    · exact ha.crosspoint.map
    all_goals rfl
  | _ => exact same (by simp)

/-- An engine operation, or an entry of another owner, leaves the Monitor; a RESTORE settles a health state by the count (R109). -/
theorem offerAct_monitor {e : Entry} {s t : State} (h : OfferAct e s t) : t.monitor = s.monitor ∨
    ∃ i, (s.monitor.get i).count < s.monitor.threshold ∧
      t.monitor = s.monitor.modify i fun r => { r with health := if r.count = 0 then .clean else .suspect } := by
  cases h with
  | restore i _ hc => exact .inr ⟨i, hc, rfl⟩
  | _ => exact .inl (by simp)

theorem InputRecord.SoundIn.restore {window threshold : Nat} {eligible : Bool} {r : InputRecord} (h : r.SoundIn window threshold eligible)
    (hc : r.count < threshold) :
    ({ r with health := if r.count = 0 then .clean else .suspect } : InputRecord).SoundIn window threshold eligible := by
  obtain ⟨buffer, count, divider, -⟩ := h
  refine ⟨buffer, count, divider, .inr ?_⟩
  simp [healthAfter, hc]

theorem monitorSound_fieldAct {s t : State} (h : FieldAct s t) (hs : MonitorSound s) : MonitorSound t := by
  have map := h.map
  have loader := h.loader
  have same (hm : t.monitor = s.monitor) : MonitorSound t := monitorSound_of_same hs hm map (by simp [loader])
  obtain ⟨fit, -⟩ := monitorSound_iff.1 hs
  cases h with
  | monitor =>
    unfold advanceMonitor
    split
    · exact hs
    · next hl =>
      split
      · exact monitorSound_iff.2 ⟨fit.update, fun h => absurd h hl⟩
      · exact monitorSound_iff.2 ⟨fit.map (fun i => (fit.inputs i).clearField) true, fun h => absurd h hl⟩
  | applied _ e hrun _ ho =>
    rcases offerAct_monitor (offer_act ho) with hm | ⟨i, hc, hm⟩
    · exact same hm
    · refine monitorSound_iff.2 ⟨?_, fun h => by rw [loader, hrun] at h; cases h⟩
      rw [hm]
      exact (fit.crosspoint map).modify i (((fit.crosspoint map).inputs i).restore hc)
  | _ => exact same (by simp)

theorem monitorSound_loaded {s : State} {c : Configuration} {isDefault : Bool} (hc : c.InRange) (h : MonitorSound s)
    (hl : s.loader.state = .loading) : MonitorSound (applyConfiguration c isDefault s) := by
  obtain ⟨fit, unused⟩ := monitorSound_iff.1 h
  refine monitorSound_beginLine (monitorSound_iff.2 ⟨?_, fun h => by simp [Loader.finish] at h⟩)
  simpa using (unused hl).configure fit.length hc _

theorem reset_monitorSound : MonitorSound State.reset := by
  refine monitorSound_iff.2 ⟨⟨rfl, by decide, by decide, by decide, fun i => ?_⟩, fun _ => ⟨rfl, fun r hr => ?_⟩⟩
  · have record : State.reset.monitor.get i = .reset := by
      simp only [Monitor.get, State.reset, Monitor.reset, List.getD_eq_getElem?_getD, List.getElem?_replicate]
      split <;> rfl
    rw [record]
    exact ⟨Nat.zero_le _, by decide, le_rfl, .inr (by simp [InputRecord.reset, healthAfter])⟩
  · rw [(List.mem_replicate.1 hr).2]
    exact ⟨rfl, rfl, rfl⟩

theorem monitorSound_act {s t : State} (h : Act s t) (hl : LoaderSound s) (hs : MonitorSound s) : MonitorSound t := by
  obtain ⟨fit, unused⟩ := monitorSound_iff.1 hs
  have same (hm : t.monitor = s.monitor) (hc : t.crosspoint.map = s.crosspoint.map)
      (hl : t.loader.state = .loading → s.loader.state = .loading) : MonitorSound t := monitorSound_of_same hs hm hc hl
  cases h with
  | reset => exact monitorSound_of_same reset_monitorSound rfl rfl id
  | release _ _ ha => exact same rfl rfl fun _ => hl.1 ha
  | releaseDefaults station final ha =>
    have read : MonitorSound (readStraps station final .defaults s) := monitorSound_of_same hs rfl rfl id
    exact monitorSound_loaded (default_inRange _) read (hl.1 ha)
  | load c d _ hlo hc => exact monitorSound_loaded hc.inRange hs hlo
  | enter => exact same (by simp) (by simp [deriveField_crosspoint]) (by simp)
  | line r => exact monitorSound_beginLine (monitorSound_of_same (t := s.setRaster r) hs rfl rfl id)
  | input i f _ hf =>
    exact monitorSound_iff.2 ⟨fit.modify i ((fit.inputs i).act fit.window (hf _)),
      fun h => (unused h).modify i fit.length ((fit.inputs i).act_kept (hf _))⟩
  | tick => exact same fit.tick_eq rfl id
  | complete =>
    exact same (by simp) ((EngineAct.complete s).acts.crosspoint.map) (by simp)
  | duplicate => exact same (by simp) (by simp) (by rw [hearDuplicate_loader]; split <;> simp)
  | switchPoint =>
    have ends {u v : State} (hu : MonitorSound u) (hm : v.monitor = u.monitor) (hc : v.crosspoint.map = u.crosspoint.map)
        (hl : v.loader.state ≠ .loading) : MonitorSound v := monitorSound_of_same hu hm hc fun h => absurd h hl
    refine takeSwitchPoint_keeps (inv := MonitorSound) (mid := MonitorSound) (monitorSound_of_same hs (by simp) (by simp) (by simp))
      (fun a h => monitorSound_fieldAct a h) (fun h => monitorSound_of_same hs rfl rfl fun _ => h) (fun u hu hr h => ?_)
      (fun u hu hr h => ?_) (fun u hu hr h => ?_)
    · exact ends h (by simp) (by simp [deriveField_crosspoint]) (by simp [hu, hr])
    · refine ends h (by simp) (by simp [deriveField_crosspoint]) ?_
      simp only [noteAnnounced_frame, deriveField_frame, countListening_loader, expireWhere_frame, hu, hr]
      split <;> simp
    · exact ends h (by simp) (by simp [deriveField_crosspoint]) (by simp [hu, hr])
  | clearDuplicate => exact same rfl rfl id
  | _ => exact same (by simp) (by simp) (by simp)

/-! ## The outputs (R68, R81, R113) -/

/-- A colour within the limits, luma within the luma limits and chroma within the chroma limits. -/
def Limits.Holds (l : Limits) (v : Colour) : Prop :=
  (l.yLo ≤ v.y.toNat ∧ v.y.toNat ≤ l.yHi) ∧
    (l.cLo ≤ v.cb.toNat ∧ v.cb.toNat ≤ l.cHi) ∧ (l.cLo ≤ v.cr.toNat ∧ v.cr.toNat ≤ l.cHi)

/-- An output line of a format whose every sample lies within the limits. -/
def OutputLine.Within (o : OutputLine) (f : Format) (l : Limits) : Prop := ∀ n, n < lineSamples f → l.Holds (o.sampleAt f n)

theorem pictureSound_iff {s : State} : PictureSound s ↔ s.picture.limits.Sound ∧
    s.picture.pgm.Within s.raster.format s.picture.limits ∧ s.picture.pvw.Within s.raster.format s.picture.limits := by
  simp only [PictureSound, List.forall_mem_cons, List.not_mem_nil, false_implies, implies_true, and_true]
  exact and_assoc.symm

/-- The limiter puts every value within its limits (R81). -/
theorem limiter_range {v lo hi : Nat} (h : lo ≤ hi) (h' : hi ≤ 1019) :
    lo ≤ (sampleOf (clampNat v lo hi)).toNat ∧ (sampleOf (clampNat v lo hi)).toNat ≤ hi := by
  have range := clampNat_range (v := v) h
  rw [sampleOf, BitVec.toNat_ofNat, Nat.mod_eq_of_lt (by omega)]
  exact range

/-- The format's blanking and active samples come in pairs (R113). -/
theorem format_pairs (f : Format) :
    2 * (blankingSamples f / 2) = blankingSamples f ∧ 2 * (activeWidth f / 2) = activeWidth f ∧
      blankingSamples f + activeWidth f = lineSamples f := by
  cases f <;> decide

theorem getD_of_forall {α : Type} {p : α → Prop} {l : List α} {i : Nat} {d : α} (hi : i < l.length) (h : ∀ x ∈ l, p x) :
    p (l.getD i d) := by
  rw [List.getD_eq_getElem?_getD, List.getElem?_eq_getElem hi, Option.getD_some]
  exact h _ (List.getElem_mem hi)

/-- Copies of one limited sample are limited samples. -/
theorem mem_replicate_limited (k : Nat → Sample) {n x : Nat} : ∀ v ∈ List.replicate n (k x), ∃ y, v = k y :=
  fun _ hv => ⟨x, (List.mem_replicate.1 hv).2⟩

/-- An output line of limited samples, as many as its format has, lies within the limits. -/
theorem outputLine_within {f : Format} {lim : Limits} (h : lim.Sound) (line : Nat) {y cb cr : List Sample}
    (hy : y.length = activeWidth f) (hcb : cb.length = activeWidth f / 2) (hcr : cr.length = activeWidth f / 2)
    (ly : ∀ v ∈ y, ∃ x, v = lim.luma x) (lcb : ∀ v ∈ cb, ∃ x, v = lim.chroma x) (lcr : ∀ v ∈ cr, ∃ x, v = lim.chroma x) :
    (outputLine f lim line y cb cr).Within f lim := by
  obtain ⟨⟨yOrder, yTop⟩, cOrder, cTop⟩ := h
  obtain ⟨blank, active, total⟩ := format_pairs f
  have luma {v : Sample} (hv : ∃ x, v = lim.luma x) : lim.yLo ≤ v.toNat ∧ v.toNat ≤ lim.yHi := by
    obtain ⟨x, rfl⟩ := hv
    exact limiter_range yOrder yTop
  have chroma {v : Sample} (hv : ∃ x, v = lim.chroma x) : lim.cLo ≤ v.toNat ∧ v.toNat ≤ lim.cHi := by
    obtain ⟨x, rfl⟩ := hv
    exact limiter_range cOrder cTop
  intro n hn
  unfold OutputLine.sampleAt activePosition
  by_cases hb : n < blankingSamples f
  · simp only [hb, if_true]
    refine ⟨luma (getD_of_forall ?_ (mem_replicate_limited lim.luma)), chroma (getD_of_forall ?_ (mem_replicate_limited lim.chroma)),
      chroma (getD_of_forall ?_ (mem_replicate_limited lim.chroma))⟩ <;> simp only [List.length_replicate] <;> omega
  · simp only [hb, if_false]
    refine ⟨luma (getD_of_forall ?_ ly), chroma (getD_of_forall ?_ lcb), chroma (getD_of_forall ?_ lcr)⟩ <;> omega

theorem blackLine_within {f : Format} {lim : Limits} (h : lim.Sound) (line : Nat) : (blackLine f lim line).Within f lim := by
  exact outputLine_within h line (by simp) (by simp) (by simp) (mem_replicate_limited lim.luma) (mem_replicate_limited lim.chroma)
    (mem_replicate_limited lim.chroma)

theorem renderLine_within {f : Format} {lim : Limits} (h : lim.Sound) (line : Nat) (scene : Scene) :
    (renderLine f lim line scene).Within f lim := by
  have rendered {n : Nat} {g : Nat → Sample} {k : Nat → Sample} {v : Sample} (hg : ∀ x, ∃ y, g x = k y)
      (hv : v ∈ (List.range n).map g) : ∃ y, v = k y := by
    obtain ⟨x, -, rfl⟩ := List.mem_map.1 hv
    exact hg x
  exact outputLine_within h line (by simp) (by simp) (by simp)
    (fun v => rendered (k := lim.luma) fun x => ⟨scene.y f (frameRow f line) x, rfl⟩)
    (fun v => rendered (k := lim.chroma) fun x => ⟨scene.cb f (frameRow f line) x, rfl⟩)
    fun v => rendered (k := lim.chroma) fun x => ⟨scene.cr f (frameRow f line) x, rfl⟩

/-- Both outputs are drawn within the limits whatever they held before. -/
theorem outputLines_sound {s : State} (h : s.picture.limits.Sound) (supplied : List (Option VideoLine)) :
    (outputLines s supplied).pgm.Within s.raster.format s.picture.limits ∧
      (outputLines s supplied).pvw.Within s.raster.format s.picture.limits := by
  simp only [outputLines]
  split
  · exact ⟨renderLine_within h _ _, renderLine_within h _ _⟩
  · exact ⟨blackLine_within h _, blackLine_within h _⟩

theorem outputLines_limits (s : State) (supplied : List (Option VideoLine)) : (outputLines s supplied).limits = s.picture.limits := by
  simp only [outputLines]
  split <;> rfl

@[simp] theorem beginLine_limits (s : State) : (beginLine s).picture.limits = s.picture.limits := by
  simp only [beginLine]
  split <;> simp [outputLines_limits]

/-- The start of a line draws both outputs within the limits. -/
theorem pictureSound_beginLine {s : State} (h : s.picture.limits.Sound) : PictureSound (beginLine s) := by
  have format : (beginLine s).raster.format = s.raster.format := by rw [beginLine_raster]
  rw [pictureSound_iff, format, beginLine_limits]
  refine ⟨h, ?_⟩
  simp only [beginLine]
  split
  · exact outputLines_sound (s := (s.setMonitor _).setRaster (s.raster.noteStart s.raster.line)) h _
  · exact outputLines_sound h []

theorem RasterAct.format {r r' : Raster} (h : RasterAct r r') : r'.format = r.format := by
  have locked (r : Raster) : r.leaveLock.format = r.format := by rw [r.leaveLock_place]
  cases h with
  | toSwitchLine => exact r.runTo_format _
  | toDeadline => exact r.runTo_format _
  | toMissCheck => exact (locked _).trans (r.runTo_format _)
  | missCheck => exact locked _
  | leaveLock => exact locked r
  | _ => rfl

/-- At reset both outputs carry the blanking line 1 of format A (R16, R125). -/
theorem OutputLine.reset_eq : OutputLine.reset = blackLine .A .reset 1 := by
  have luma : Limits.reset.luma 64 = 64#10 := by decide
  have chroma : Limits.reset.chroma 512 = 512#10 := by decide
  simp only [blackLine, outputLine, luma, chroma]
  rfl

theorem Limits.Sound.ofReset : Limits.reset.Sound := by simp [Limits.Sound, Limits.reset]

theorem reset_pictureSound : PictureSound State.reset := by
  have within : OutputLine.reset.Within .A .reset := OutputLine.reset_eq ▸ blackLine_within .ofReset 1
  exact pictureSound_iff.2 ⟨.ofReset, within, within⟩

theorem pictureSound_act {s t : State} (h : Act s t) (hs : PictureSound s) : PictureSound t := by
  have same (hp : t.picture = s.picture) (hf : t.raster.format = s.raster.format) : PictureSound t := by
    rw [pictureSound_iff] at hs ⊢
    rwa [hp, hf]
  cases h with
  | reset => exact reset_pictureSound
  | releaseDefaults station => exact pictureSound_beginLine (default_inRange station).limits
  | load c _ _ _ hc => exact pictureSound_beginLine hc.inRange.limits
  | turn r _ hr => exact same rfl hr.format
  | line r => exact pictureSound_beginLine (pictureSound_iff.1 hs).1
  | switchPoint => exact same (takeSwitchPoint_frame s).2.1 (by rw [(takeSwitchPoint_frame s).1]; rfl)
  | release | clearDuplicate => exact same rfl rfl
  | _ => exact same (by simp) (by simp)

end Sys2Proof.Machine

namespace Sys2Proof.Invariants

open Sys2Proof Sys2Proof.Machine Sys2Proof.Safety

/-- Settles O58. -/
theorem stepsKeepTheMonitorSound : Obligations.StepsKeepTheMonitorSound :=
  keptByStep_of_act fun h ⟨hl, hs⟩ => ⟨loaderSound_act h hl, monitorSound_act h hl hs⟩

/-- Settles O10: every line that starts is drawn through the limiter, and nothing else draws. -/
theorem outputsStayWithinLimits : Obligations.OutputsStayWithinLimits := by
  refine ⟨keptByStep_of_act pictureSound_act, fun s ⟨released, readable⟩ yOrder yTop cOrder cTop => ?_⟩
  refine ⟨startLine s, whenCounting_released startLine s released readable, ?_⟩
  have limits : s.picture.limits.Sound := ⟨⟨yOrder, yTop⟩, cOrder, cTop⟩
  obtain ⟨-, -, within⟩ : PictureSound (startLine s) := pictureSound_beginLine (s := s.setRaster s.raster.nextLine) limits
  have drawn : (startLine s).picture.limits = s.picture.limits := beginLine_limits _
  have format : (startLine s).raster.format = s.raster.format := by
    rw [startLine, beginLine_raster]
    rfl
  rwa [drawn, format] at within

end Sys2Proof.Invariants
end

section
/-! PROOF. The clock, the reset input and the end of LOADING: a step and an idle sample period, the values of reset, and what a
configuration leaves in force. -/

namespace Sys2Proof.Machine

open Sys2Proof.Safety

/-! ## A line of black (R16, R68) -/

theorem OutputLine.sampleAt_blanking {f : Format} {n : Nat} (o : OutputLine) (h : n < blankingSamples f) :
    o.sampleAt f n = ⟨o.blankY.getD n 64, o.blankCb.getD (n / 2) 512, o.blankCr.getD (n / 2) 512⟩ := by
  simp [OutputLine.sampleAt, activePosition, h]

theorem OutputLine.sampleAt_active {f : Format} (o : OutputLine) (x : Nat) :
    o.sampleAt f (blankingSamples f + x) = ⟨o.y.getD x 64, o.cb.getD (x / 2) 512, o.cr.getD (x / 2) 512⟩ := by
  simp [OutputLine.sampleAt, activePosition]

theorem getD_replicate_of_lt {α : Type} {n k : Nat} (a d : α) (h : k < n) : (List.replicate n a).getD k d = a := by
  simp [List.getD_eq_getElem?_getD, h]

theorem getD_replicate_default {α : Type} (n : Nat) (a : α) (k : Nat) : (List.replicate n a).getD k a = a := by
  rw [List.getD_eq_getElem?_getD, List.getElem?_replicate]
  split <;> rfl

theorem outputLine_sampleAt_blanking {f : Format} (lim : Limits) (line : Nat) (y cb cr : List Sample) {n : Nat}
    (h : n < blankingSamples f) :
    (outputLine f lim line y cb cr).sampleAt f n = ⟨lim.luma 64, lim.chroma 512, lim.chroma 512⟩ := by
  have pairs : 2 * (blankingSamples f / 2) = blankingSamples f := (format_pairs f).1
  have half : n / 2 < blankingSamples f / 2 := by omega
  simp only [OutputLine.sampleAt_blanking _ h, outputLine, getD_replicate_of_lt _ _ h, getD_replicate_of_lt _ _ half]

theorem blackLine_sampleAt {f : Format} (lim : Limits) (line : Nat) {n : Nat} (h : n < lineSamples f) :
    (blackLine f lim line).sampleAt f n = ⟨lim.luma 64, lim.chroma 512, lim.chroma 512⟩ := by
  obtain ⟨-, pairs, whole⟩ := format_pairs f
  by_cases hn : n < blankingSamples f
  · exact outputLine_sampleAt_blanking lim line _ _ _ hn
  · obtain ⟨x, rfl⟩ := Nat.exists_eq_add_of_le (Nat.le_of_not_lt hn)
    have active : x < activeWidth f := by omega
    have half : x / 2 < activeWidth f / 2 := by omega
    simp only [OutputLine.sampleAt_active, blackLine, outputLine, getD_replicate_of_lt _ _ active,
      getD_replicate_of_lt _ _ half]

/-! ## The end of LOADING (R180) -/

/-- Line 1 is blanking in every format. -/
theorem isActiveLine_one (f : Format) : isActiveLine f 1 = false := by cases f <;> rfl

theorem applyConfiguration_monitor (c : Configuration) (isDefault : Bool) (s : State) :
    (applyConfiguration c isDefault s).monitor = s.monitor.configure c := by
  unfold applyConfiguration
  rw [beginLine_monitor_of_not_active (isActiveLine_one _)]
  simp

theorem applyConfiguration_crosspoint (c : Configuration) (isDefault : Bool) (s : State) :
    (applyConfiguration c isDefault s).crosspoint = s.crosspoint.configure c := by
  simp [applyConfiguration]

theorem outputLines_matte (s : State) (supplied : List (Option VideoLine)) :
    (outputLines s supplied).matte = s.picture.matte := by
  simp only [outputLines]
  split <;> rfl

@[simp] theorem beginLine_matte (s : State) : (beginLine s).picture.matte = s.picture.matte := by
  simp only [beginLine]
  split <;> simp [outputLines_matte]

theorem applyConfiguration_picture (c : Configuration) (isDefault : Bool) (s : State) :
    (applyConfiguration c isDefault s).picture.limits = c.limits ∧ (applyConfiguration c isDefault s).picture.matte = c.matte := by
  simp [applyConfiguration, Picture.configure]

theorem applyConfiguration_kept (c : Configuration) (isDefault : Bool) (s : State) :
    LoadingKept s (applyConfiguration c isDefault s) := by
  obtain ⟨hport, hpeers, hsets, htally, -, hpending⟩ := applyConfiguration_frame c isDefault s
  refine ⟨hport, hpeers, hsets, htally, hpending, ?_, ?_, ?_, ?_, fun l => ?_, ?_⟩
  · simp [Intake.configure]
  · simp [Intake.configure]
  · rw [applyConfiguration_crosspoint]; rfl
  · rw [applyConfiguration_keys]; rfl
  · rw [applyConfiguration_keys, KeyUnit.configure_get]
    exact ⟨rfl, rfl⟩
  · rw [applyConfiguration_engine]
    exact ⟨rfl, rfl, rfl, rfl⟩

/-! ## The default configuration (R184) -/

theorem defaultMap_getD (i : Nat) :
    defaultMap.getD i none = (inputOfNat i).map fun input => { input := input, backup := none, failover := false } := by
  by_cases hi : i < 62
  · simp [defaultMap, List.getD_eq_getElem?_getD, hi]
  · have unmapped : inputOfNat i = none := inputOfNat_eq_none_iff.2 (by omega)
    simp [defaultMap, List.getD_eq_getElem?_getD, hi, unmapped]

/-- The resolver with a configured map reads its entries from it. -/
theorem Crosspoint.entry_of_map {c : Crosspoint} {m : List (Option MapEntry)} (h : c.map = m) {n : Source} (hn : 2 ≤ n.val) :
    c.entry n = m.getD (n.val - 2) none := by
  have above : ¬ n.val < 2 := by omega
  simp [Crosspoint.entry, above, h]

theorem mem_configure_leakDivider {m : Monitor} {c : Configuration} {k : Nat} (hd : ∀ i, c.dividers.getD i 0 = k) :
    ∀ r ∈ (m.configure c).inputs, r.leakDivider = k := by
  intro r hr
  obtain ⟨i, -, rfl⟩ := List.mem_mapIdx.1 hr
  exact hd i

theorem applyDefaults_inForce (s : State) : DefaultsInForce s.loader.station (applyDefaults s) := by
  unfold applyDefaults
  have hcross := applyConfiguration_crosspoint (.default s.loader.station) true s
  have entry {n : Source} (hn : 2 ≤ n.val) := Crosspoint.entry_of_map
    (c := (applyConfiguration (.default s.loader.station) true s).crosspoint)
    (m := defaultMap) (by rw [hcross]; rfl) hn
  refine ⟨by simp [Loader.finish], by simp [Loader.finish], by simp [Loader.finish], ⟨defaultProgramme s.loader.station, ?_, rfl⟩,
    fun n i hn => ?_, fun n hn => ?_, ?_, ?_, ?_, ?_, ?_, fun l => ?_⟩
  · rw [hcross]; rfl
  · rw [entry (by omega), defaultMap_getD, (inputOfNat_eq_some_iff (k := i)).2 (by omega)]
    rfl
  · rw [entry (by omega), defaultMap_getD, inputOfNat_eq_none_iff.2 (by omega)]
    rfl
  · rw [applyConfiguration_raster]
    exact ⟨rfl, rfl, rfl, rfl, rfl, rfl, rfl, rfl, rfl, rfl⟩
  · simp [Intake.configure, Configuration.default]
  · rw [applyConfiguration_monitor]
    exact ⟨rfl, rfl, rfl, mem_configure_leakDivider fun i => getD_replicate_default 12 0 i⟩
  · obtain ⟨hlimits, hmatte⟩ := applyConfiguration_picture (.default s.loader.station) true s
    exact ⟨hlimits, hmatte⟩
  · rw [applyConfiguration_engine]; rfl
  · rw [applyConfiguration_keys]
    cases l <;> rfl

theorem applyDefaults_kept (s : State) : LoadingKept s (applyDefaults s) := applyConfiguration_kept _ _ s

/-! ## The end of LOADING by the flash (R180, R182) -/

section
variable {s : State} (hr : Released s) (hl : s.loader.state = .loading) (hb : s.loader.boot = .flash) {block : List Byte}
include hr hl hb

theorem execEndOfLoading_rejected (h : checkBlock block = .rejected) :
    exec (.endOfLoading block) s = .next (applyDefaults s) := by
  have released : s.loader.inputAsserted = false := hr
  simp [exec, execEndOfLoading, whenReleased, released, hl, hb, h]

theorem execEndOfLoading_accepted {content : List Byte} (h : checkBlock block = .accepted content) :
    exec (.endOfLoading block) s =
      .next (applyConfiguration (readConfiguration s.loader.station content) false s) := by
  have released : s.loader.inputAsserted = false := hr
  simp [exec, execEndOfLoading, whenReleased, released, hl, hb, h]

end

/-- A wrong marker or length rejects a block at once, and a sum that differs rejects a whole one (R182). -/
theorem checkBlock_rejected {m0 m1 l0 l1 s0 s1 : Byte} {rest : List Byte}
    (h : m0.toNat ≠ 87 ∨ m1.toNat ≠ 86 ∨ l0.toNat * 256 + l1.toNat ≠ 323 ∨
      (rest.length = 323 ∧
        (m0.toNat + m1.toNat + l0.toNat + l1.toNat + (rest.map fun b => b.toNat).sum) % 65536 ≠ s0.toNat * 256 + s1.toNat)) :
    checkBlock (m0 :: m1 :: l0 :: l1 :: s0 :: s1 :: rest) = .rejected := by
  simp only [checkBlock, word16, contentLength]
  by_cases header : m0.toNat ≠ 87 ∨ m1.toNat ≠ 86 ∨ l0.toNat * 256 + l1.toNat ≠ 323
  · simp [header]
  · obtain ⟨length, sum⟩ : rest.length = 323 ∧
        (m0.toNat + m1.toNat + l0.toNat + l1.toNat + (rest.map fun b => b.toNat).sum) % 65536 ≠ s0.toNat * 256 + s1.toNat := by tauto
    have whole : rest.take 323 = rest := List.take_of_length_le length.le
    simp only [List.map_append, List.sum_append, whole]
    simp [header, length, ← Nat.add_assoc, sum]

/-- A block of the right marker, length and sum is accepted with its content (R182). -/
theorem checkBlock_accepted {s0 s1 : Byte} {content : List Byte} (length : content.length = 323)
    (sum : (87 + 86 + 1 + 67 + (content.map fun b => b.toNat).sum) % 65536 = s0.toNat * 256 + s1.toNat) :
    checkBlock (87#8 :: 86#8 :: 1#8 :: 67#8 :: s0 :: s1 :: content) = .accepted content := by
  have whole : content.take 323 = content := List.take_of_length_le length.le
  simp only [checkBlock, word16, contentLength, List.map_append, List.sum_append, whole]
  simpa [length] using sum

theorem Loader.unreadable_of_count {l : Loader} (ha : l.inputAsserted = false) (hl : l.state = .loading) (hb : l.boot = .flash) :
    l.unreadable = decide (16 ≤ l.loadingSwitchPoints) := by
  simp only [Loader.unreadable, ha, hl, hb, Config.flashLimit]
  rfl

theorem execFlashUnreadable_unreadable {s : State} (hr : Released s) (hu : s.loader.unreadable = true) :
    exec .flashUnreadable s = .next (applyDefaults s) := by
  show execFlashUnreadable s = _
  unfold execFlashUnreadable
  rw [whenReleased_released _ _ hr]
  simp [endUnreadable, hu]

theorem execFlashUnreadable_readable {s : State} (hr : Released s) (hu : s.loader.unreadable = false) :
    exec .flashUnreadable s = .next s := by
  show execFlashUnreadable s = _
  unfold execFlashUnreadable
  rw [whenReleased_released _ _ hr]
  simp [endUnreadable, hu]

/-! ## The events that move the counters (R114, R116, R121 to R123) -/

theorem exec_lineStart (s : State) : exec .lineStart s = whenCounting startLine s := rfl

theorem exec_switchPoint (s : State) : exec .switchPoint s = whenCounting
    (fun s => if s.raster.deadlineFlag then takeSwitchPoint (moveCounters (s.raster.runTo s.raster.switchLines) s) else s) s := rfl

theorem exec_cueDeadline (s : State) : exec .cueDeadline s = whenCounting
    (fun s => if s.raster.deadlineFlag then s else moveCounters (s.raster.runTo s.raster.deadlineLines).takeDeadline s) s := rfl

theorem exec_referenceFieldStart (format : Format) (field : FieldId) (s : State) :
    exec (.referenceFieldStart format field) s = whenCounting
      (fun s => if format = s.raster.format ∧ field ∈ fieldsOf format then takeReferenceStart field s else s) s := rfl

theorem exec_missCheck (s : State) : exec .missCheck s = whenCounting
    (fun s => if s.raster.refState = .free then s else moveCounters s.raster.runToMissCheck.checkMiss s) s := rfl

/-- An event that moves the counters, with the flash unreadable, finds LOADING ended. -/
theorem whenCounting_applyDefaults {s : State} (hr : Released s) (hu : s.loader.unreadable = true) (f : State → State) :
    whenCounting f s = whenCounting f (applyDefaults s) := by
  have released : (applyDefaults s).loader.inputAsserted = false := by
    simpa [applyDefaults, Loader.finish, Released] using hr
  have readable : (applyDefaults s).loader.unreadable = false :=
    Loader.unreadable_of_state _ (by simp [applyDefaults, Loader.finish])
  rw [whenCounting_unreadable f s hr hu, whenCounting_released f _ released readable]

end Sys2Proof.Machine

namespace Sys2Proof.StartUp

open Sys2Proof Sys2Proof.Machine Sys2Proof.Safety

/-- Settles O1. -/
theorem stepTakesFrontCommand : Obligations.StepTakesFrontCommand := by
  intro s c rest h
  simp [step, h]

/-- Settles O2: with no line ending and no event of the clock due, each part of the sample period but the count is idle. -/
theorem idleStepCountsOneSample : Obligations.IdleStepCountsOneSample := by
  intro s pending released readable sample deadline switch miss quiet
  have quiet' : (s.setRaster { s.raster with sample := s.raster.sample + 1 }).mayBegin = false := quiet
  have deadline' : s.raster.line ∉ Machine.deadlineLines s.raster.format s.raster.switchLine s.raster.guardLines := deadline
  have switch' : s.raster.line ∉ Machine.switchLines s.raster.format s.raster.switchLine := switch
  have miss' : s.raster.line ∉ Machine.missCheckLines s.raster.format s.raster.offsetLines := miss
  have released' : s.loader.inputAsserted = false := released
  simp [step, pending, tick, released', runClock, endUnreadable, readable, advanceSample, sample, meetDeadline,
    Raster.deadlineLines, deadline', meetSwitchPoint, State.switchPointDue, Raster.switchLines, switch', meetMissCheck,
    Raster.missCheckLines, miss', meetAttempt, quiet']

/-- Settles O3: RESET_ASSERTED leaves `State.reset` but for the straps. -/
theorem resetAssertedClearsEveryBlock : Obligations.ResetAssertedClearsEveryBlock := by
  intro s
  have inputs (i : InputNo) : Monitor.reset.get i = .reset := by
    simp only [Monitor.get, Monitor.reset]
    exact getD_replicate_of_lt _ _ i.isLt
  have black (n : Nat) (hn : n < 2640) : OutputLine.reset.sampleAt .A n = ⟨64#10, 512#10, 512#10⟩ := by
    rw [OutputLine.reset_eq, blackLine_sampleAt _ _ hn]
    decide
  refine ⟨assertReset s, rfl, ⟨rfl, rfl, rfl, rfl, rfl, rfl, rfl⟩, ⟨rfl, rfl, rfl, rfl, rfl, rfl, rfl, rfl, rfl, rfl, rfl⟩,
    ⟨rfl, rfl, rfl, rfl, rfl, rfl, rfl, rfl, rfl⟩, ⟨rfl, rfl, rfl, rfl, rfl⟩, ⟨rfl, rfl, rfl, rfl⟩,
    ⟨rfl, reset_entry, resetBuses_get⟩, ⟨rfl, rfl, rfl, rfl, rfl, inputs⟩,
    ⟨rfl, rfl, rfl, rfl, rfl, rfl, rfl, rfl, rfl, rfl, rfl⟩, ⟨fun l => by cases l <;> rfl, rfl⟩,
    ⟨rfl, rfl, rfl, rfl, rfl, rfl, black⟩, ⟨rfl, rfl, rfl, rfl⟩, rfl, rfl⟩

/-- Settles O4. -/
theorem releaseReadsStrapsAndMayEndLoading : Obligations.ReleaseReadsStrapsAndMayEndLoading := by
  refine ⟨fun s station final => ⟨fun asserted => ?_, fun released boot => ?_⟩, fun s station final asserted => ?_⟩
  · simp [exec, execResetReleased, asserted, readStraps]
  · have released' : s.loader.inputAsserted = false := released
    simp [exec, execResetReleased, released']
  · refine ⟨applyDefaults (readStraps station final .defaults s), by simp [exec, execResetReleased, asserted],
      applyDefaults_inForce _, applyDefaults_kept (readStraps station final .defaults s), ?_⟩
    simp [applyDefaults, Loader.finish, readStraps]

/-- Settles O5: the two ways the flash fails both end LOADING with the defaults. -/
theorem rejectedOrUnreadableFlashGivesDefaults : Obligations.RejectedOrUnreadableFlashGivesDefaults := by
  refine ⟨fun s m0 m1 l0 l1 s0 s1 rest hr hl hb rejected => ?_, fun s hr hl hb => ⟨fun late => ?_, fun early => ?_⟩,
    fun s hr hl hb late => ?_⟩
  · exact ⟨applyDefaults s, execEndOfLoading_rejected hr hl hb (checkBlock_rejected rejected), applyDefaults_inForce s,
      applyDefaults_kept s⟩
  · have unreadable : s.loader.unreadable = true := by simpa [Loader.unreadable_of_count hr hl hb] using late
    exact ⟨applyDefaults s, execFlashUnreadable_unreadable hr unreadable, applyDefaults_inForce s, applyDefaults_kept s⟩
  · exact execFlashUnreadable_readable hr (by simpa [Loader.unreadable_of_count hr hl hb] using early)
  · have unreadable : s.loader.unreadable = true := by simpa [Loader.unreadable_of_count hr hl hb] using late
    have ended (f : State → State) := whenCounting_applyDefaults hr unreadable f
    simp only [exec_lineStart, exec_switchPoint, exec_cueDeadline, exec_missCheck, exec_referenceFieldStart]
    exact ⟨applyDefaults s, execFlashUnreadable_unreadable hr unreadable, by simp [applyDefaults, Loader.finish],
      ended _, ended _, ended _, ended _, fun _ _ => ended _⟩

/-- Settles O49. -/
theorem resetIsSound : Obligations.ResetIsSound := by
  have loader : LoaderSound State.reset := ⟨fun _ => rfl, fun h => (nomatch h)⟩
  have counters : CountersSound State.reset :=
    ⟨⟨by decide, by decide⟩, by decide, ⟨by decide, by decide⟩, ⟨by decide, by decide⟩, by decide, by decide⟩
  have reference : ReferenceSound State.reset := ⟨by decide, fun _ => rfl, by decide⟩
  have port : PortSound State.reset := portSound_iff.2 ⟨.ofReset, fun _ => ⟨rfl, rfl, rfl⟩⟩
  have queue : QueueSound State.reset := ⟨by decide, List.nodup_nil, fun _ => rfl⟩
  have peers : PeersSound State.reset := ⟨.nil, fun e he => (List.not_mem_nil he).elim, fun _ => rfl⟩
  have owner : OwnerSound State.reset := ⟨fun p hp => (nomatch hp), fun h => (nomatch h), fun _ => rfl⟩
  have rates : RatesSound State.reset := ⟨fun l => (by cases l <;> decide), fun e he => (List.not_mem_nil he).elim⟩
  have transition : TransitionSound State.reset :=
    ⟨⟨rfl, rfl, rfl, rfl⟩, fun h => absurd rfl h, fun l => (by cases l <;> exact ⟨rfl, rfl, rfl⟩),
      fun _ => ⟨rfl, rfl, fun l => (by cases l <;> rfl)⟩⟩
  have tally : TallySound State.reset := ⟨by decide, rfl, fun _ t ht => (List.mem_replicate.1 ht).2⟩
  have counts : CountsSound State.reset := ⟨by decide, by decide, fun h => (nomatch h), fun _ => ⟨rfl, rfl⟩⟩
  have line : LineSound State.reset := fun h => (nomatch h)
  exact ⟨loader, counters, reference, port, queue, peers, owner, .refl _, rates, transition, reset_sourcesSound.1,
    reset_sourcesSound.2, reset_monitorSound, tally, counts, line, reset_pictureSound⟩

end Sys2Proof.StartUp
end

section
/-! PROOF. The Cue Line Port: the line state and discarded assemblies, the frames an attempt sends and how it ends, and what the bytes of
a STANDING say. -/

namespace Sys2Proof.Machine

open Sys2Proof.Safety

/-! ## The frames R139 delivers -/

theorem lengthAllowed_iff {kind len : Nat} : lengthAllowed kind len = true ↔
    (kind ∈ [1, 4, 6, 9] ∧ len = 1) ∨ (kind ∈ [2, 3, 5] ∧ len = 2) ∨ (kind = 7 ∧ 2 ≤ len ∧ len ≤ 21) ∨
      (kind = 8 ∧ 3 ≤ len ∧ len ≤ 20) ∨ (kind = 12 ∧ len = 29) ∨ (kind = 13 ∧ len = 3) := by
  unfold lengthAllowed
  split
  case h_12 => simp_all
  all_goals simp

/-- Two bytes are those of a check when they spell its number, most significant first (R129). -/
theorem checkBytes_eq_iff (c : Check) (c0 c1 : Byte) : checkBytes c = [c0, c1] ↔ c0.toNat * 256 + c1.toNat = c.toNat := by
  have := c.isLt
  have := c0.isLt
  have := c1.isLt
  simp only [checkBytes, bytes16, List.cons.injEq, and_true, BitVec.toNat_eq, BitVec.toNat_ofNat]
  omega

/-- A whole assembly of at most 40 payload bytes arrives when its check verifies and its kind and length are delivered. -/
theorem frameArrives_iff {body : List Byte} {c0 c1 : Byte} {len : Nat} (hlen : ((body ++ [c0, c1]).getD 2 0).toNat = len)
    (whole : body.length = 3 + len) (short : len ≤ 40) :
    frameArrives (body ++ [c0, c1]) = true ↔
      c0.toNat * 256 + c1.toNat = (frameCheck body).toNat ∧
        lengthAllowed (((body ++ [c0, c1]).getD 1 0).toNat / 16) len = true := by
  have length : (body ++ [c0, c1]).length = 5 + len := by simp [whole]; omega
  simp only [frameArrives, hlen, length, short, ← whole, List.take_left, List.drop_left, Bool.and_eq_true, beq_iff_eq,
    decide_true, true_and, checkBytes_eq_iff]

/-! ## Discards and arrivals while the port waits for IDLE (R138) -/

theorem execFrameDiscarded_kept {s : State} (hr : Released s) {bytes : List Byte} {ending : AssemblyEnd}
    (h : isDiscarded bytes ending = false) : exec (.frameDiscarded bytes ending) s = .next s := by
  have released : s.loader.inputAsserted = false := hr
  simp [exec, execFrameDiscarded, whenReleased, released, h]

theorem execFrameDiscarded_discarded {s : State} (hr : Released s) (hx : s.port.rx ≠ .waitIdle) {bytes : List Byte}
    {ending : AssemblyEnd} (h : isDiscarded bytes ending = true) : exec (.frameDiscarded bytes ending) s = .next (s.setPort
      { s.port with lineState := lineAfterDiscard s.port.lineState ending, rx := rxAfterDiscard ending }) := by
  have released : s.loader.inputAsserted = false := hr
  simp [exec, execFrameDiscarded, whenReleased, released, h, Port.discard_assembling _ _ hx]

theorem execFrameDiscarded_waiting {s : State} (hr : Released s) (hx : s.port.rx = .waitIdle) (bytes : List Byte)
    (ending : AssemblyEnd) : exec (.frameDiscarded bytes ending) s = .next s := by
  have released : s.loader.inputAsserted = false := hr
  have stays : s.setPort s.port = s := rfl
  simp [exec, execFrameDiscarded, whenReleased, released, Port.discard_waiting _ _ hx, stays]

/-- What an arrival does: its effect when the port delivers it, and nothing for a payload whose length R139 does not allow. -/
theorem exec_arrival {h : Header} {b0 b1 b2 : Byte} {p7 p8 p12 : List Byte} {c : Instr}
    (hc : c ∈ arrivalsFrom h b0 b1 b2 p7 p8 p12) (s : State) :
    (∃ f, exec c s = .next (deliver h.sender f s)) ∨ exec c s = .next s := by
  have guarded {len kind : Nat} (f : State → State) (e : Host.Outcome State Fault Refusal)
      (he : e = .next (if lengthAllowed kind len then deliver h.sender f s else s)) :
      (∃ f, e = .next (deliver h.sender f s)) ∨ e = .next s := by
    split at he
    · exact .inl ⟨f, he⟩
    · exact .inr he
  simp only [arrivalsFrom, List.mem_cons, List.not_mem_nil, or_false] at hc
  obtain rfl | rfl | rfl | rfl | rfl | rfl | rfl | rfl | rfl | rfl | rfl := hc
  case inr.inr.inr.inr.inr.inr.inl => exact guarded _ _ rfl
  case inr.inr.inr.inr.inr.inr.inr.inl => exact guarded _ _ rfl
  case inr.inr.inr.inr.inr.inr.inr.inr.inr.inl => exact guarded _ _ rfl
  all_goals exact .inl ⟨_, rfl⟩

/-! ## The life of an attempt (R132 to R134) -/

section
variable {s : State} (hr : Released s)
include hr

theorem exec_released {c : Instr} {f : State → State} (h : exec c s = whenReleased f s) : exec c s = .next (f s) :=
  h.trans (whenReleased_released f s hr)

theorem exec_arbitrationLoss : exec .arbitrationLoss s = .next (s.setPort s.port.loseArbitration) :=
  exec_released hr (f := fun s => s.setPort s.port.loseArbitration) rfl

theorem exec_attemptPassesByte0 : exec .attemptPassesByte0 s = .next (s.setPort s.port.passByte0) :=
  exec_released hr (f := fun s => s.setPort s.port.passByte0) rfl

theorem exec_transmitError : exec .transmitError s = .next (s.setPort s.port.transmitError) :=
  exec_released hr (f := fun s => s.setPort s.port.transmitError) rfl

theorem exec_frameDropped : exec .frameDropped s = .next (s.setPort s.port.dropSpent) :=
  exec_released hr (f := fun s => s.setPort s.port.dropSpent) rfl

theorem exec_attemptCompletes : exec .attemptCompletes s = .next (s.setPort s.port.completeAttempt) :=
  exec_released hr (f := fun s => s.setPort s.port.completeAttempt) rfl

end

/-! ## The bytes of a STANDING (R143) -/

@[simp] theorem byteOf_toNat (n : Nat) : (byteOf n).toNat = n % 256 := BitVec.toNat_ofNat ..

/-- Byte `k` of a set, from the least significant, holds the sources 8k to 8k + 7. -/
def setByte (x : SourceSet) (k : Nat) : Byte := x.extractLsb' (8 * k) 8

theorem setByte_testBit (x : SourceSet) (n : Source) : (setByte x (n.val / 8)).toNat.testBit (n.val % 8) = setHas x n := by
  have place : 8 * (n.val / 8) + n.val % 8 = n.val := Nat.div_add_mod ..
  have low : n.val % 8 < 8 := Nat.mod_lt _ (by decide)
  rw [BitVec.testBit_toNat, setByte, BitVec.getLsbD_extractLsb', place, decide_eq_true low, Bool.true_and, setHas]

/-- A byte taken in below the bytes above it. -/
theorem shift_in_setByte (x : SourceSet) (k : Nat) :
    ((x >>> (8 * k + 8)) <<< 8) ||| (setByte x k).setWidth 64 = x >>> (8 * k) := by
  refine BitVec.eq_of_getLsbD_eq fun i hi => ?_
  by_cases low : i < 8
  · simp [setByte, hi, low]
  · have place : 8 * k + 8 + (i - 8) = 8 * k + i := by omega
    simp [setByte, hi, low, place]

theorem setOfBytes_setBytes (x : SourceSet) : setOfBytes (setBytes x) = x := by
  have start : (0#64 : SourceSet) = x >>> 64 := (BitVec.ushiftRight_eq_zero (Nat.le_refl 64)).symm
  have bytes : setBytes x = [setByte x 7, setByte x 6, setByte x 5, setByte x 4, setByte x 3, setByte x 2, setByte x 1,
    setByte x 0] := rfl
  simp only [setOfBytes, bytes, List.foldl_cons, List.foldl_nil]
  rw [start, shift_in_setByte x 7, shift_in_setByte x 6, shift_in_setByte x 5, shift_in_setByte x 4, shift_in_setByte x 3,
    shift_in_setByte x 2, shift_in_setByte x 1, shift_in_setByte x 0]
  simp

theorem standingPayload_contribution (s : State) {k : Nat} (hk : k < 8) :
    (standingPayload s).getD (17 - k) 0 = setByte s.sets.contribution k := by
  interval_cases k <;> rfl

theorem standingPayload_next (s : State) {k : Nat} (hk : k < 8) :
    (standingPayload s).getD (25 - k) 0 = setByte s.sets.next k := by
  interval_cases k <;> rfl

theorem healthCode_lt (h : Health) : healthCode h < 4 := by cases h <;> decide

/-- Input i occupies the two bits of weight 4^i of the health number. -/
theorem healthNumber_digit (hs : List Health) (i : Nat) : healthNumber hs / 4 ^ i % 4 = (hs.map healthCode).getD i 0 := by
  induction hs generalizing i with
  | nil => simp [healthNumber]
  | cons h rest ih =>
    have := healthCode_lt h
    have number : healthNumber (h :: rest) = healthNumber rest * 4 + healthCode h := rfl
    cases i with
    | zero => simp [number]; omega
    | succ i =>
      have shift : (healthNumber rest * 4 + healthCode h) / 4 = healthNumber rest := by omega
      rw [number, pow_succ', ← Nat.div_div_eq_div_mul, shift, ih]
      simp

theorem standingPayload_health (s : State) {k : Nat} (hk : k < 3) :
    ((standingPayload s).getD (28 - k) 0).toNat = healthNumber (s.monitor.inputs.map (·.health)) / 4 ^ (4 * k) % 256 := by
  interval_cases k
  · show (byteOf _).toNat = _
    simp
  · show (byteOf _).toNat = _
    simp
  · show (byteOf _).toNat = _
    simp

/-- A digit of a byte of a number in base 4 is a digit of the number. -/
theorem digit_of_byte (n k r : Nat) (hr : r < 4) : n / 4 ^ (4 * k) % 256 / 4 ^ r % 4 = n / 4 ^ (4 * k + r) % 4 := by
  rw [pow_add, ← Nat.div_div_eq_div_mul]
  generalize n / 4 ^ (4 * k) = m
  interval_cases r <;> simp <;> omega

theorem standingPayload_health_digit (s : State) (hlen : s.monitor.inputs.length = 12) (i : InputNo) :
    ((standingPayload s).getD (28 - i.val / 4) 0).toNat / 4 ^ (i.val % 4) % 4 = healthCode (s.monitor.get i).health := by
  have hi : i.val < s.monitor.inputs.length := by omega
  rw [standingPayload_health s (by omega), digit_of_byte _ _ _ (Nat.mod_lt _ (by decide)), Nat.div_add_mod, healthNumber_digit]
  simp [Monitor.get, hi]

theorem flagCode_le (b : Bool) : flagCode b ≤ 1 := by cases b <;> decide

theorem refCode_le (r : RefState) : refCode r ≤ 2 := by cases r <;> decide

theorem engineCode_le (e : EngineState) : engineCode e ≤ 2 := by cases e <;> decide

theorem typeCode_le (t : TransType) : typeCode t ≤ 1 := by cases t <;> decide

theorem layerCode_le (x : LayerState) : layerCode x ≤ 3 := by cases x <;> decide

theorem standingPayload_byte1 (s : State) : ((standingPayload s).getD 1 0).toNat =
    s.intake.linkGroup.val * 64 + flagCode s.loader.final * 32 + refCode s.peers.announced.refState * 8 +
      flagCode s.loader.configDefault * 4 + flagCode s.peers.duplicate * 2 + flagCode s.tally.noFinal := by
  have link := s.intake.linkGroup.isLt
  have final := flagCode_le s.loader.final
  have reference := refCode_le s.peers.announced.refState
  have default := flagCode_le s.loader.configDefault
  have duplicate := flagCode_le s.peers.duplicate
  have noFinal := flagCode_le s.tally.noFinal
  exact (byteOf_toNat _).trans (Nat.mod_eq_of_lt (by omega))

theorem standingPayload_byte3 (s : State) :
    ((standingPayload s).getD 3 0).toNat = engineCode s.engine.state * 16 + typeCode s.engine.settings.type := by
  have engine := engineCode_le s.engine.state
  have type := typeCode_le s.engine.settings.type
  exact (byteOf_toNat _).trans (Nat.mod_eq_of_lt (by omega))

theorem standingPayload_byte8 (s : State) : ((standingPayload s).getD 8 0).toNat =
    layerCode (s.keys.get .l1).state + layerCode (s.keys.get .l2).state * 4 + layerCode (s.keys.get .l3).state * 16 +
      layerCode (s.keys.get .l4).state * 64 := by
  have l1 := layerCode_le (s.keys.get .l1).state
  have l2 := layerCode_le (s.keys.get .l2).state
  have l3 := layerCode_le (s.keys.get .l3).state
  have l4 := layerCode_le (s.keys.get .l4).state
  exact (byteOf_toNat (layerCode (s.keys.get .l1).state + layerCode (s.keys.get .l2).state * 4 +
    layerCode (s.keys.get .l3).state * 16 + layerCode (s.keys.get .l4).state * 64)).trans (Nat.mod_eq_of_lt (by omega))

theorem standingPayload_progress {s : State} (h : s.engine.progress ≤ 1024) :
    ((standingPayload s).getD 4 0).toNat * 256 + ((standingPayload s).getD 5 0).toNat = s.engine.progress := by
  show (byteOf (s.engine.progress / 256)).toNat * 256 + (byteOf s.engine.progress).toNat = _
  rw [byteOf_toNat, byteOf_toNat]
  omega

theorem ownerByte_some (q : Station) : (ownerByte (some q)).toNat = 128 + q.val := by
  have := q.isLt
  exact (byteOf_toNat _).trans (Nat.mod_eq_of_lt (by omega))

theorem ownerByte_middle (o : Option Station) : (ownerByte o).toNat / 16 % 8 = 0 := by
  cases o with
  | none => rfl
  | some q =>
    have := q.isLt
    rw [ownerByte_some]
    omega

theorem byteOf_source (n : Source) : (byteOf n.val).toNat = n.val := by
  have := n.isLt
  rw [byteOf_toNat]
  omega

/-- A WV-612 that receives a STANDING reads back what its sender announced. -/
theorem mixFieldsOf_standingPayload {s : State} {p : Source} (hp : s.crosspoint.programme = some p) :
    mixFieldsOf (standingPayload s) =
      { programme := p, linkGroup := s.intake.linkGroup, final := s.loader.final, contribution := s.sets.contribution,
        next := s.sets.next } := by
  have byte0 : ((standingPayload s).getD 0 0).toNat = p.val := by
    rw [← byteOf_source p]
    simp [standingPayload, hp]
  have byte1 := standingPayload_byte1 s
  have link := s.intake.linkGroup.isLt
  have final := flagCode_le s.loader.final
  have reference := refCode_le s.peers.announced.refState
  have default := flagCode_le s.loader.configDefault
  have duplicate := flagCode_le s.peers.duplicate
  have noFinal := flagCode_le s.tally.noFinal
  have finalBit : ((standingPayload s).getD 1 0).toNat / 2 ^ 5 % 2 = flagCode s.loader.final := by omega
  have programme : sourceOfByte ((standingPayload s).getD 0 0) = p :=
    Fin.ext ((congrArg (· % 64) byte0).trans (Nat.mod_eq_of_lt p.isLt))
  have group : ((standingPayload s).getD 1 0).toNat / 64 % 4 = s.intake.linkGroup.val := by omega
  have flag : ((standingPayload s).getD 1 0).getLsbD 5 = s.loader.final := by
    rw [← BitVec.testBit_toNat, Nat.testBit_eq_decide_div_mod_eq, finalBit]
    cases s.loader.final <;> rfl
  have sets : setOfBytes (((standingPayload s).drop 10).take 8) = s.sets.contribution ∧
      setOfBytes (((standingPayload s).drop 18).take 8) = s.sets.next := ⟨setOfBytes_setBytes _, setOfBytes_setBytes _⟩
  simp only [mixFieldsOf, programme, group, flag, sets]

end Sys2Proof.Machine

namespace Sys2Proof.TheCueLine

open Sys2Proof Sys2Proof.Machine Sys2Proof.Safety

/-- Settles O24. -/
theorem lineStateFollowsTheLine : Obligations.LineStateFollowsTheLine := by
  intro s hr
  have released : s.loader.inputAsserted = false := hr
  refine ⟨by simp [exec, execLineIdle, whenReleased, released, Port.lineIdle], fun idle => ?_, fun busy => ?_,
    fun hx bytes => ⟨?_, fun long tooLong => ?_, ?_, fun body c0 c1 hb whole short => ⟨fun bad => ?_, fun check allowed => ?_⟩⟩,
    fun hx => ⟨fun bytes ending => execFrameDiscarded_waiting hr hx bytes ending, fun h b0 b1 b2 p7 p8 p12 c hc => ?_⟩⟩
  · refine ⟨s.setPort s.port.lineBusy, by simp [exec, execLineBusy, whenReleased, released], ?_, fun ready => ?_, fun other => ?_⟩
    · simp [Port.lineBusy, idle]
    · simp [Port.lineBusy, idle, ready]
    · cases hx : s.port.rx <;> simp_all [Port.lineBusy]
  · have stays : s.port.lineBusy = s.port := by simp [Port.lineBusy, busy]
    simp only [exec, execLineBusy, whenReleased, released, stays]
    rfl
  · exact execFrameDiscarded_discarded hr hx rfl
  · exact execFrameDiscarded_discarded hr hx (by simpa [isDiscarded] using ⟨long, tooLong⟩)
  · exact execFrameDiscarded_discarded hr hx rfl
  · subst hb
    refine execFrameDiscarded_discarded hr hx ?_
    rw [isDiscarded, Bool.not_eq_true', Bool.eq_false_iff, Ne, frameArrives_iff rfl whole short, lengthAllowed_iff]
    tauto
  · subst hb
    refine execFrameDiscarded_kept hr ?_
    rw [isDiscarded, Bool.not_eq_false', frameArrives_iff rfl whole short, lengthAllowed_iff]
    exact ⟨check, allowed⟩
  · rcases exec_arrival hc s with ⟨f, hf⟩ | he
    · rw [hf, deliver_waiting _ _ _ hx]
    · exact he

/-- Settles O25. -/
theorem attemptSendsStandingBeforeRefusals : Obligations.AttemptSendsStandingBeforeRefusals := by
  refine ⟨fun s ⟨hr, running⟩ idle free room => ⟨fun pending => ?_, fun r rest none hq => ?_⟩, fun s barred => ?_⟩
  · have begins : s.mayBegin = true := State.mayBegin_iff.2 ⟨running, idle, free, room, .inl pending⟩
    have released : s.loader.inputAsserted = false := hr
    refine ⟨beginAttempt s, _, by simp [exec, execAttemptBegins, whenReleased, released, begins], beginAttempt_standing pending,
      rfl, rfl, rfl, ?_⟩
    simp only [standingFrame, sendFrame, checkBytes, kindCode, byteOf, Nat.mul_comm s.loader.station.val 4]
    rfl
  · have begins : s.mayBegin = true := State.mayBegin_iff.2 ⟨running, idle, free, room, .inr (by simp [hq])⟩
    have released : s.loader.inputAsserted = false := hr
    refine ⟨beginAttempt s, _, by simp [exec, execAttemptBegins, whenReleased, released, begins], beginAttempt_refusal none hq,
      rfl, rfl, rfl, ?_⟩
    simp only [refusalFrame, sendFrame, checkBytes, byteOf, Nat.mul_comm s.loader.station.val 4]
    rfl
  · have idles : s.mayBegin = false := by
      rw [Bool.eq_false_iff, Ne, State.mayBegin_iff]
      rintro ⟨running, idle, free, room, waits⟩
      rcases barred with h | h | h | h | ⟨h, h'⟩
      · exact h running
      · simp [h] at idle
      · exact h free
      · omega
      · simp [h, h'] at waits
    simp [exec, execAttemptBegins, whenReleased, idles]

/-- Settles O26: each byte is that of a number that it holds whole, the sets' bytes by their bits and the health bytes by their digits. -/
theorem standingCarriesTheSets : Obligations.StandingCarriesTheSets := by
  intro s p hp
  let byte (i : Nat) := ((standingPayload s).getD i 0).toNat
  have byte0 : byte 0 = p.val := by
    rw [← byteOf_source p]
    simp [byte, standingPayload, hp]
  have byte1 : byte 1 = _ := standingPayload_byte1 s
  have byte3 : byte 3 = _ := standingPayload_byte3 s
  have byte8 : byte 8 = _ := standingPayload_byte8 s
  have byte9 : byte 9 = (ownerByte s.intake.leverOwner).toNat := rfl
  have own := p.isLt
  have link := s.intake.linkGroup.isLt
  have final := flagCode_le s.loader.final
  have reference := refCode_le s.peers.announced.refState
  have default := flagCode_le s.loader.configDefault
  have duplicate := flagCode_le s.peers.duplicate
  have noFinal := flagCode_le s.tally.noFinal
  have engine := engineCode_le s.engine.state
  have type := typeCode_le s.engine.settings.type
  have l1 := layerCode_le (s.keys.get .l1).state
  have l2 := layerCode_le (s.keys.get .l2).state
  have l3 := layerCode_le (s.keys.get .l3).state
  have l4 := layerCode_le (s.keys.get .l4).state
  have flags : byte 1 / 64 = s.intake.linkGroup.val ∧ byte 1 / 32 % 2 = flagCode s.loader.final ∧
      byte 1 / 8 % 4 = refCode s.peers.announced.refState ∧ byte 1 / 4 % 2 = flagCode s.loader.configDefault ∧
      byte 1 / 2 % 2 = flagCode s.peers.duplicate ∧ byte 1 % 2 = flagCode s.tally.noFinal := by omega
  have codes : byte 3 / 16 % 4 = engineCode s.engine.state ∧ byte 3 % 2 = typeCode s.engine.settings.type := by omega
  have layers : byte 8 % 4 = layerCode (s.keys.get .l1).state ∧ byte 8 / 4 % 4 = layerCode (s.keys.get .l2).state ∧
      byte 8 / 16 % 4 = layerCode (s.keys.get .l3).state ∧ byte 8 / 64 = layerCode (s.keys.get .l4).state := by omega
  have unlisted : byte 0 / 64 = 0 ∧ byte 3 / 64 = 0 ∧ byte 3 / 2 % 8 = 0 := by omega
  refine ⟨rfl, mixFieldsOf_standingPayload hp, (by omega : byte 0 % 64 = p.val), flags, rfl, codes, standingPayload_progress,
    byteOf_source _, byteOf_source _, layers, fun absent => ?_, fun q owner => ?_, fun n => ?_,
    fun hlen i => standingPayload_health_digit s hlen i, unlisted.1, unlisted.2.1, unlisted.2.2, ownerByte_middle _⟩
  · have zero : byte 9 = 0 := by rw [byte9, absent]; rfl
    exact ⟨(by omega : byte 9 / 128 = 0), (by omega : byte 9 % 16 = 0)⟩
  · have present : byte 9 = 128 + q.val := by rw [byte9, owner, ownerByte_some]
    have := q.isLt
    exact ⟨(by omega : byte 9 / 128 = 1), (by omega : byte 9 % 16 = q.val)⟩
  · have place : n.val / 8 < 8 := by omega
    constructor
    · rw [← setByte_testBit, ← standingPayload_contribution s place]
    · rw [← setByte_testBit, ← standingPayload_next s place]

/-- Settles O27. -/
theorem attemptsEndAsTheLineDecides : Obligations.AttemptsEndAsTheLineDecides := by
  refine ⟨fun s a hr ha hb => ⟨?_, fun hf => ?_, fun hf => ?_⟩,
    fun s a hr sound ha => ⟨fun hs he => ?_, fun hs he => ?_, fun r rest hs hq he => ?_, fun r rest hs hq he => ?_⟩,
    fun s hr => ⟨fun he hq => ?_, fun r rest hs hq he => ?_, fun hs hq => ?_⟩,
    fun s a hr ha hb => ⟨fun hs => ?_, fun r rest hs hq => ?_⟩⟩
  · rw [exec_arbitrationLoss hr, Port.loseArbitration_byte0 ha hb]
  · rw [exec_attemptPassesByte0 hr, Port.passByte0_charged ha hb hf]
  · rw [exec_attemptPassesByte0 hr, Port.passByte0_earlier ha hb hf]
  · have port := (portSound_iff.1 sound).1
    rw [exec_transmitError hr, Port.transmitError_standing_counted ha hs (fun r hr => Nat.lt_succ_of_le (port.spent r hr)) he]
  · have port := (portSound_iff.1 sound).1
    rw [exec_transmitError hr, Port.transmitError_standing_dropped ha hs (fun r hr => Nat.lt_succ_of_le (port.spent r hr)) he.ge]
  · have port := (portSound_iff.1 sound).1
    rw [exec_transmitError hr, Port.transmitError_refusal_counted ha hs hq (Nat.lt_succ_of_le port.standing)
      (fun x hx => Nat.lt_succ_of_le (port.spent x (by simp [hq, hx]))) he]
  · have port := (portSound_iff.1 sound).1
    rw [exec_transmitError hr, Port.transmitError_refusal_dropped ha hs hq (Nat.lt_succ_of_le port.standing) he.ge]
  · rw [exec_frameDropped hr, Port.dropSpent_standing he hq]
  · rw [exec_frameDropped hr, Port.dropSpent_refusal hs hq he]
  · rw [exec_frameDropped hr, Port.dropSpent_none hs hq]
    rfl
  · rw [exec_attemptCompletes hr, Port.completeAttempt_standing ha hs, Port.passByte0_passed ha hb]
  · rw [exec_attemptCompletes hr, Port.completeAttempt_refusal ha hs, Port.passByte0_passed ha hb, hq, List.tail_cons]

end Sys2Proof.TheCueLine
end

section
/-! PROOF. The start of an output line: the counters, the buffers, and what both outputs carry (R101, R114, R115, R62 to R81). -/

namespace Sys2Proof.Machine

open Sys2Proof.Safety

/-! ## The alignment buffers at a line start (R101) -/

theorem bufferRead_held {n : Nat} {older newer : List VideoLine} {l : VideoLine} (hl : l.line = n) (ho : ∀ o ∈ older, o.line ≠ n) :
    bufferRead n (older ++ l :: newer) = (some l, newer) := by
  have skip : (older ++ l :: newer).dropWhile (fun l => l.line != n) = l :: newer := by
    rw [List.dropWhile_append_of_pos (by simpa using ho)]
    simp [hl]
  simp only [bufferRead, skip]

theorem bufferRead_absent {n : Nat} {buffer : List VideoLine} (h : ∀ l ∈ buffer, l.line ≠ n) : bufferRead n buffer = (none, buffer) := by
  have skip : buffer.dropWhile (fun l => l.line != n) = [] := by simpa using h
  simp only [bufferRead, skip]

theorem InputRecord.serve_held {r : InputRecord} {n : Nat} {older newer : List VideoLine} {l : VideoLine}
    (hb : r.buffer = older ++ l :: newer) (hl : l.line = n) (ho : ∀ o ∈ older, o.line ≠ n) :
    r.serve n = (some l, { r with buffer := newer }) := by
  simp only [serve, hb, bufferRead_held hl ho]

theorem InputRecord.serve_absent {r : InputRecord} {n : Nat} (h : ∀ l ∈ r.buffer, l.line ≠ n) :
    r.serve n = (none, { r with substitutionSeen := true }) := by
  simp only [serve, bufferRead_absent h]

theorem InputRecord.serve_fst (r : InputRecord) (n : Nat) : (r.serve n).1 = (bufferRead n r.buffer).1 := by
  unfold serve
  split <;> simp_all

/-! ## What a line start changes (R101, R114, R115) -/

theorem beginLine_changes (s : State) :
    beginLine s = ((s.setRaster (beginLine s).raster).setMonitor (beginLine s).monitor).setPicture (beginLine s).picture := by
  simp only [beginLine]
  split <;> rfl

theorem moveCounters_changes (r : Raster) (s : State) :
    moveCounters r s =
      ((s.setRaster (moveCounters r s).raster).setMonitor (moveCounters r s).monitor).setPicture (moveCounters r s).picture := by
  unfold moveCounters
  split
  · rfl
  · rw [beginLine_changes]
    rfl

theorem beginLine_monitor_of_active {s : State} (h : isActiveLine s.raster.format s.raster.line = true) :
    (beginLine s).monitor = { s.monitor with inputs := s.monitor.inputs.map fun r => (r.serve s.raster.line).2 } := by
  simp [beginLine, h, Function.comp_def]

/-! ## What both outputs carry (R15, R16, R68) -/

theorem beginLine_dark {s : State} (h : s.loader.state ≠ .running ∨ isActiveLine s.raster.format s.raster.line = false) :
    (beginLine s).picture =
      { s.picture with
        pgm := blackLine s.raster.format s.picture.limits s.raster.line,
        pvw := blackLine s.raster.format s.picture.limits s.raster.line } := by
  have dark : ¬ (s.loader.state = .running ∧ isActiveLine s.raster.format s.raster.line = true) := by
    rintro ⟨running, active⟩
    rcases h with h | h
    · exact h running
    · simp [active] at h
  simp only [beginLine]
  split
  · exact if_neg dark
  · exact if_neg dark

/-- The picture of each source on a line, from the lines that the buffers hold. -/
def State.pictureOn (s : State) (line : Nat) : Source → LinePicture :=
  sourcePicture s.crosspoint s.picture.matte (s.monitor.inputs.map fun r => (bufferRead line r.buffer).1)

theorem beginLine_rendered {s : State} (h : s.loader.state = .running)
    (ha : isActiveLine s.raster.format s.raster.line = true) :
    (beginLine s).picture =
      { s.picture with
        pgm := renderLine s.raster.format s.picture.limits s.raster.line (programmeScene s (s.pictureOn s.raster.line)),
        pvw := renderLine s.raster.format s.picture.limits s.raster.line (previewScene s (s.pictureOn s.raster.line)) } := by
  have supplied : (s.monitor.inputs.map fun r => r.serve s.raster.line).map Prod.fst =
      s.monitor.inputs.map fun r => (bufferRead s.raster.line r.buffer).1 := by
    simp [Function.comp_def, InputRecord.serve_fst]
  simp only [beginLine, ha, supplied, if_true]
  exact if_pos ⟨h, ha⟩

/-- A line drawn for an output: its timing reference, its blanking and as many samples as the format has. -/
def OutputLine.DrawnOn (o : OutputLine) (f : Format) (lim : Limits) (line : Nat) : Prop :=
  ∃ y cb cr, y.length = activeWidth f ∧ cb.length = activeWidth f / 2 ∧ cr.length = activeWidth f / 2 ∧
    o = outputLine f lim line y cb cr

theorem blackLine_drawnOn (f : Format) (lim : Limits) (line : Nat) : (blackLine f lim line).DrawnOn f lim line :=
  ⟨_, _, _, by simp, by simp, by simp, rfl⟩

theorem renderLine_drawnOn (f : Format) (lim : Limits) (line : Nat) (scene : Scene) :
    (renderLine f lim line scene).DrawnOn f lim line :=
  ⟨_, _, _, by simp, by simp, by simp, rfl⟩

theorem beginLine_drawnOn (s : State) :
    (beginLine s).picture.pgm.DrawnOn s.raster.format s.picture.limits s.raster.line ∧
      (beginLine s).picture.pvw.DrawnOn s.raster.format s.picture.limits s.raster.line := by
  by_cases h : s.loader.state = .running ∧ isActiveLine s.raster.format s.raster.line = true
  · rw [beginLine_rendered h.1 h.2]
    exact ⟨renderLine_drawnOn _ _ _ _, renderLine_drawnOn _ _ _ _⟩
  · rw [beginLine_dark (by simpa [imp_iff_not_or] using h)]
    exact ⟨blackLine_drawnOn _ _ _, blackLine_drawnOn _ _ _⟩

theorem beginLine_outputs_only (s : State) :
    (beginLine s).picture = { s.picture with pgm := (beginLine s).picture.pgm, pvw := (beginLine s).picture.pvw } := by
  by_cases h : s.loader.state = .running ∧ isActiveLine s.raster.format s.raster.line = true
  · rw [beginLine_rendered h.1 h.2]
  · rw [beginLine_dark (by simpa [imp_iff_not_or] using h)]

section
variable {o : OutputLine} {f : Format} {lim : Limits} {n : Nat} (h : o.DrawnOn f lim n)
include h

theorem OutputLine.DrawnOn.line : o.line = n := by
  obtain ⟨y, cb, cr, -, -, -, rfl⟩ := h
  rfl

theorem OutputLine.DrawnOn.fieldFlag : o.fieldFlag = true ↔ fieldOfLine f n = .two := by
  obtain ⟨y, cb, cr, -, -, -, rfl⟩ := h
  simp [outputLine]

theorem OutputLine.DrawnOn.blankingFlag : o.blankingFlag = true ↔ isActiveLine f n = false := by
  obtain ⟨y, cb, cr, -, -, -, rfl⟩ := h
  simp [outputLine]

theorem OutputLine.DrawnOn.check : o.check = lineCheck o.y o.cb o.cr := by
  obtain ⟨y, cb, cr, -, -, -, rfl⟩ := h
  rfl

theorem OutputLine.DrawnOn.blanking {k : Nat} (hk : k < blankingSamples f) :
    o.sampleAt f k = ⟨lim.luma 64, lim.chroma 512, lim.chroma 512⟩ := by
  obtain ⟨y, cb, cr, -, -, -, rfl⟩ := h
  exact outputLine_sampleAt_blanking lim n y cb cr hk

theorem OutputLine.DrawnOn.lengths :
    o.y.length = activeWidth f ∧ o.cb.length * 2 = activeWidth f ∧ o.cr.length * 2 = activeWidth f := by
  obtain ⟨y, cb, cr, hy, hcb, hcr, rfl⟩ := h
  have pairs := (format_pairs f).2.1
  exact ⟨hy, by simp only [outputLine, hcb]; omega, by simp only [outputLine, hcr]; omega⟩

theorem OutputLine.DrawnOn.active {x : Nat} (hx : x < activeWidth f) :
    o.sampleAt f (blankingSamples f + x) = ⟨o.y.getD x 0, o.cb.getD (x / 2) 0, o.cr.getD (x / 2) 0⟩ := by
  obtain ⟨y, cb, cr⟩ := h.lengths
  have hy : x < o.y.length := by omega
  have hcb : x / 2 < o.cb.length := by omega
  have hcr : x / 2 < o.cr.length := by omega
  simp only [OutputLine.sampleAt_active, List.getD_eq_getElem _ _ hy, List.getD_eq_getElem _ _ hcb, List.getD_eq_getElem _ _ hcr]

end

/-! ## The next line (R114) -/

theorem Raster.nextLine_eq (r : Raster) :
    r.nextLine = { r with line := if r.line < frameLines r.format then r.line + 1 else 1, sample := 0 } := by
  by_cases h : r.line < frameLines r.format
  · simp [nextLine, h, Nat.not_le.2 h]
  · simp [nextLine, h, Nat.not_lt.1 h]

theorem exec_lineStart_counting {s : State} (h : Counting s) : exec .lineStart s = .next (startLine s) :=
  whenCounting_released _ s h.1 h.2

theorem startLine_raster (s : State) :
    (startLine s).raster = { s.raster.nextLine with startedLines := (startLine s).raster.startedLines } := by
  unfold startLine
  rw [beginLine_raster]
  rfl

@[simp] theorem startLine_format (s : State) : (startLine s).raster.format = s.raster.format := by
  rw [startLine_raster]
  rfl

theorem startLine_line (s : State) : (startLine s).raster.line = s.raster.nextLine.line := by rw [startLine_raster]

theorem startLine_drawnOn (s : State) :
    (startLine s).picture.pgm.DrawnOn s.raster.format s.picture.limits s.raster.nextLine.line ∧
      (startLine s).picture.pvw.DrawnOn s.raster.format s.picture.limits s.raster.nextLine.line :=
  beginLine_drawnOn (s.setRaster s.raster.nextLine)

/-- At the start of an active line each input is served from its buffer. -/
theorem startLine_get {s : State} (hlen : s.monitor.inputs.length = 12)
    (h : isActiveLine s.raster.format s.raster.nextLine.line = true) (i : InputNo) :
    (startLine s).monitor.get i = ((s.monitor.get i).serve s.raster.nextLine.line).2 := by
  have served := beginLine_monitor_of_active (s := s.setRaster s.raster.nextLine) h
  exact Monitor.get_map hlen (f := fun r => (r.serve s.raster.nextLine.line).2) (congrArg Monitor.inputs served) i

end Sys2Proof.Machine

namespace Sys2Proof.RasterAndReference

open Sys2Proof Sys2Proof.Machine Sys2Proof.Safety

/-- Settles O9: the line that starts is the next one, and both outputs are drawn on it. -/
theorem lineStartMovesCountersAndReadsBuffers : Obligations.LineStartMovesCountersAndReadsBuffers := by
  refine ⟨fun s h => ⟨startLine s, exec_lineStart_counting h, ?_⟩, fun s h hlen => ⟨startLine s, exec_lineStart_counting h, ?_⟩⟩
  · have raster := startLine_raster s
    have next := s.raster.nextLine_eq
    obtain ⟨pgm, pvw⟩ := startLine_drawnOn s
    have drawn : ∀ o ∈ [(startLine s).picture.pgm, (startLine s).picture.pvw],
        o.DrawnOn s.raster.format s.picture.limits s.raster.nextLine.line := by
      simpa using ⟨pgm, pvw⟩
    rw [startLine_format, startLine_line]
    refine ⟨by rw [raster, next], by rw [next], by rw [raster, next], beginLine_changes _, beginLine_outputs_only _,
      ⟨pgm.line, pvw.line⟩, fun o ho => ?_, fun dark => ?_⟩
    · have d := drawn o ho
      exact ⟨d.fieldFlag, d.blankingFlag, d.check, fun n hn => d.blanking hn, d.lengths, fun x hx => d.active hx⟩
    · have black : (startLine s).picture = _ := beginLine_dark (s := s.setRaster s.raster.nextLine) dark
      rw [black]
      simp [blackLine, outputLine, List.mem_replicate]
  · rw [startLine_format, startLine_line]
    refine ⟨fun active i => ⟨fun older newer l hb hl ho => ?_, fun absent => ?_⟩,
      fun dark => beginLine_monitor_of_not_active (s := s.setRaster s.raster.nextLine) dark⟩
    · rw [startLine_get hlen active, InputRecord.serve_held hb hl ho]
    · rw [startLine_get hlen active, InputRecord.serve_absent absent]

end Sys2Proof.RasterAndReference
end

section
/-! PROOF. Picture Arithmetic: the scenes both outputs are rendered from, the zones of a wipe, the alpha of a layer, and PGM with every
layer at level 0 (R62 to R81). -/

namespace Sys2Proof.Machine

open Sys2Proof.Safety

/-! ## Pictures entering the arithmetic (R62, R63) -/

theorem Crosspoint.entry_above {c : Crosspoint} {n : Source} {e : MapEntry} (h : c.entry n = some e) : n ≠ 0 ∧ n ≠ 1 := by
  constructor <;> rintro rfl <;> simp [entry] at h

section
variable {s : State} {line : Nat} {n : Source} {e : MapEntry} (hlen : s.monitor.inputs.length = 12)
  (he : s.crosspoint.entry n = some e)
include hlen he

omit he in
theorem State.supplied_entry : (s.monitor.inputs.map fun r => (bufferRead line r.buffer).1).getD e.input.val none =
    (bufferRead line (s.monitor.get e.input).buffer).1 := by
  have hi : e.input.val < s.monitor.inputs.length := by omega
  simp [Monitor.get, hi]

/-- A source shows the line that its input's buffer holds. -/
theorem State.pictureOn_held {older newer : List VideoLine} {l : VideoLine}
    (hb : (s.monitor.get e.input).buffer = older ++ l :: newer) (hl : l.line = line) (ho : ∀ o ∈ older, o.line ≠ line) :
    s.pictureOn line n = .live l := by
  obtain ⟨notBlack, notMatte⟩ := Crosspoint.entry_above he
  have read := State.supplied_entry hlen (e := e) (line := line)
  rw [hb, bufferRead_held hl ho] at read
  simp only [pictureOn, sourcePicture, notBlack, notMatte, he, read, if_false]

/-- And default fill when it does not hold it. -/
theorem State.pictureOn_absent (h : ∀ l ∈ (s.monitor.get e.input).buffer, l.line ≠ line) : s.pictureOn line n = .flat .black := by
  obtain ⟨notBlack, notMatte⟩ := Crosspoint.entry_above he
  have read := State.supplied_entry hlen (e := e) (line := line)
  rw [bufferRead_absent h] at read
  simp only [pictureOn, sourcePicture, notBlack, notMatte, he, read, if_false]

end

theorem State.pictureOn_black (s : State) (line : Nat) : s.pictureOn line 0 = .flat .black := rfl

theorem State.pictureOn_matte (s : State) (line : Nat) : s.pictureOn line 1 = .flat s.picture.matte := rfl

/-! ## The scenes (R11, R12, R15, R69) -/

theorem Engine.movesBackground_iff (e : Engine) : e.movesBackground = true ↔ e.state ≠ .idle ∧ e.selection.background = true := by
  simp [movesBackground]

theorem programmeScene_single {s : State} (h : s.engine.state = .idle ∨ s.engine.selection.background = false)
    (pic : Source → LinePicture) : (programmeScene s pic).background = .single (pic s.crosspoint.buses.pgm.effective) := by
  have still : s.engine.movesBackground = false := by
    rw [Bool.eq_false_iff, Ne, Engine.movesBackground_iff]
    rintro ⟨hs, hb⟩
    rcases h with h | h
    · exact hs h
    · simp [hb] at h
  simp [programmeScene, still]

section
variable {s : State} (hs : s.engine.state ≠ .idle) (hb : s.engine.selection.background = true) (pic : Source → LinePicture)
include hs hb

theorem programmeScene_mix (ht : s.engine.settings.type = .mix) : (programmeScene s pic).background =
    .mix (pic s.crosspoint.buses.pgm.effective) (pic s.crosspoint.buses.pst.effective) s.engine.progress := by
  simp [programmeScene, s.engine.movesBackground_iff.2 ⟨hs, hb⟩, ht]

theorem programmeScene_wipe (ht : s.engine.settings.type = .wipe) : (programmeScene s pic).background =
    .wipe (pic s.crosspoint.buses.pgm.effective) (pic s.crosspoint.buses.pst.effective) s.engine.settings s.engine.direction
      s.engine.progress := by
  simp [programmeScene, s.engine.movesBackground_iff.2 ⟨hs, hb⟩, ht]

end

theorem LayerState.endsOn_iff (x : LayerState) : x.endsOn = true ↔ x = .on ∨ x = .rising := by cases x <;> simp [endsOn]

theorem previewLevel_eq (e : Engine) (l : Layer) (r : LayerRecord) : previewLevel e l r =
    if r.state = .on ∨ r.state = .rising then (if e.state = .idle ∧ e.selection.mask l = true then 0 else 1024)
    else if e.state = .idle ∧ e.selection.mask l = true then 1024 else 0 := by
  simp only [previewLevel, ← LayerState.endsOn_iff]
  cases r.state.endsOn <;> simp [restLevel]

theorem keyedLayer_signal (b : Buses) (pic : Source → LinePicture) (l : Layer) (r : LayerRecord) (level : Nat) :
    (r.settings.type = .linear → (keyedLayer b pic l r level).signal = pic (b.get (keyBus l)).effective) ∧
      (r.settings.type = .luma → (keyedLayer b pic l r level).signal = (keyedLayer b pic l r level).fill) := by
  constructor <;> intro h <;> simp [keyedLayer, h]

/-! ## Wipes (R71 to R73) -/

theorem absDiff_eq (a b : Nat) : absDiff a b = ((a : Int) - b).natAbs := by
  unfold absDiff
  omega

/-- The zones by the distance inside the edge. -/
theorem zoneSample_eq (progress softness border p a b edge : Nat) :
    let d : Int := (wipeEdge progress softness border : Nat) - (p : Nat)
    zoneSample (wipeZone progress softness border p) border a b edge =
      if d ≤ 0 then a
      else if d < softness then mix a (if 0 < border then edge else b) (d.toNat * 1024 / softness)
      else if d < softness + border then edge
      else b := by
  intro d
  have distance : d.toNat = wipeEdge progress softness border - p := by omega
  simp only [wipeZone, distance]
  by_cases outside : wipeEdge progress softness border ≤ p
  · have hd : d ≤ 0 := by omega
    simp [outside, hd, zoneSample]
  have hd : ¬ d ≤ 0 := by omega
  by_cases soft : wipeEdge progress softness border - p < softness
  · have hs : d < softness := by omega
    simp only [outside, soft, hd, hs, zoneSample, if_true, if_false]
    split <;> rfl
  have hs : ¬ d < softness := by omega
  by_cases inBorder : wipeEdge progress softness border - p < softness + border
  · have hb : d < softness + border := by omega
    simp [outside, soft, inBorder, hd, hs, hb, zoneSample]
  · have hb : ¬ d < softness + border := by omega
    simp [outside, soft, inBorder, hd, hs, hb, zoneSample]

theorem patternValue_eq (t : TransSettings) (direction : Bool) (u v : Nat) : patternValue t direction u v =
    if t.mode = .reverse ∨ t.mode = .alternate ∧ direction = true then 1023 - patternBase t.pattern t.cx t.cy u v
    else patternBase t.pattern t.cx t.cy u v := by
  unfold patternValue
  cases t.mode <;> simp

/-! ## Key alpha and compositing (R76 to R80) -/

theorem keySignal_eq (luma : Nat) : keySignal luma = if luma ≤ 64 then 0 else if 940 ≤ luma then 876 else luma - 64 := by
  unfold keySignal
  split
  · omega
  · split <;> omega

theorem inWindow_iff (k : KeySettings) (x row : Nat) : inWindow k x row = true ↔
    k.left ≤ x ∧ x < k.left + k.width ∧ k.top ≤ row ∧ row < k.top + k.height := by
  simp [inWindow]

theorem mix_zero (a b : Nat) : mix a b 0 = a := by
  unfold mix
  omega

theorem KeyedLayer.alpha_of_level_zero {l : KeyedLayer} (h : l.level = 0) (x row : Nat) : l.alpha x row = 0 := by
  simp [alpha, scaledAlpha, h]

/-- Layers at level 0 leave what lies below them. -/
theorem foldl_mix_of_alpha_zero {ls : List KeyedLayer} {alpha fill : KeyedLayer → Nat} (h : ∀ l ∈ ls, alpha l = 0) (below : Nat) :
    ls.foldl (fun below l => mix below (fill l) (alpha l)) below = below := by
  induction ls with
  | nil => rfl
  | cons l rest ih =>
    rw [List.foldl_cons, h l (by simp), mix_zero]
    exact ih fun k hk => h k (by simp [hk])

section
variable {scene : Scene} (h : ∀ l ∈ scene.layers, l.level = 0) (f : Format) (row : Nat)
include h

theorem Scene.y_of_levels_zero (x : Nat) : scene.y f row x = scene.background.y f x row :=
  foldl_mix_of_alpha_zero (alpha := fun l => l.alpha x row) (fun l hl => KeyedLayer.alpha_of_level_zero (h l hl) x row) _

theorem Scene.cb_of_levels_zero (j : Nat) : scene.cb f row j = scene.background.cb f j row :=
  foldl_mix_of_alpha_zero (alpha := fun l => l.alpha (2 * j) row) (fun l hl => KeyedLayer.alpha_of_level_zero (h l hl) (2 * j) row) _

theorem Scene.cr_of_levels_zero (j : Nat) : scene.cr f row j = scene.background.cr f j row :=
  foldl_mix_of_alpha_zero (alpha := fun l => l.alpha (2 * j) row) (fun l hl => KeyedLayer.alpha_of_level_zero (h l hl) (2 * j) row) _

end

/-- The start of an active line in RUNNING renders both outputs from their scenes. -/
theorem startLine_rendered {s : State} (h : s.loader.state = .running)
    (ha : isActiveLine s.raster.format s.raster.nextLine.line = true) :
    (startLine s).picture.pgm = renderLine s.raster.format s.picture.limits s.raster.nextLine.line
        (programmeScene s (s.pictureOn s.raster.nextLine.line)) ∧
      (startLine s).picture.pvw = renderLine s.raster.format s.picture.limits s.raster.nextLine.line
        (previewScene s (s.pictureOn s.raster.nextLine.line)) := by
  have rendered : (startLine s).picture = _ := beginLine_rendered (s := s.setRaster s.raster.nextLine) h ha
  rw [rendered]
  exact ⟨rfl, rfl⟩

end Sys2Proof.Machine

namespace Sys2Proof.PictureArithmetic

open Sys2Proof Sys2Proof.Machine Sys2Proof.Safety

/-- Settles O12. -/
theorem linesAreRenderedFromTheirScenes : Obligations.LinesAreRenderedFromTheirScenes := by
  refine ⟨fun s ⟨hr, running⟩ => ?_, fun f lim n scene => ?_, fun f t dir m x row p q => ?_, fun f b ls l x row => ?_⟩
  · have counting : Counting s := ⟨hr, Loader.unreadable_of_state _ (by simp [running])⟩
    refine ⟨startLine s, exec_lineStart_counting counting, ?_⟩
    have line : (if s.raster.line < frameLines s.raster.format then s.raster.line + 1 else 1) = s.raster.nextLine.line := by
      rw [s.raster.nextLine_eq]
    rw [line]
    intro active
    obtain ⟨pgm, pvw⟩ := startLine_rendered running active
    refine ⟨pgm, pvw, fun h => programmeScene_single h _, fun hs hb => programmeScene_mix hs hb _,
      fun hs hb => programmeScene_wipe hs hb _, rfl, ?_, ?_, fun k l v hk hv => ?_, fun k l v hk hv => ?_⟩
    · simp [programmeScene, keyedLayer, Function.comp_def]
    · simp [previewScene]
    · obtain rfl : _ = v := by simpa [programmeScene, hk] using hv
      exact ⟨rfl, rfl, (keyedLayer_signal ..).1, (keyedLayer_signal ..).2⟩
    · obtain rfl : _ = v := by simpa [previewScene, hk] using hv
      refine ⟨rfl, rfl, (keyedLayer_signal ..).1, (keyedLayer_signal ..).2, fun on => ?_, fun off => ?_⟩
      · exact (previewLevel_eq ..).trans (if_pos on)
      · exact (previewLevel_eq ..).trans (if_neg off)
  · refine ⟨fun hi => ⟨fun h h' => ?_, fun h h' => ?_⟩, fun hi h h' => ?_, rfl, rfl, rfl⟩
    · simp [frameRow, hi, show n < 564 by omega]
    · simp [frameRow, hi, show ¬ n < 564 by omega]
    · simp [frameRow, hi]
  · intro u v base value d zone
    have base_eq : base = patternBase t.pattern t.cx t.cy (normU f x) (normV f row) := by
      cases hp : t.pattern <;> simp [base, patternBase, absDiff_eq, hp, u, v, normU, normV]
    have value_eq : value = patternValue t dir (normU f x) (normV f row) := by
      rw [patternValue_eq, ← base_eq]
    have edge (a b e : Nat) : zoneSample (zoneAt f t dir m x row) t.borderWidth a b e = zone a b e := by
      rw [zoneAt, ← value_eq]
      exact zoneSample_eq m t.softness t.borderWidth value a b e
    refine ⟨edge _ _ _, fun j hj => ?_⟩
    subst hj
    exact ⟨edge _ _ _, edge _ _ _⟩
  · intro below scene key shaped turned inside masked alpha
    have alpha_eq : alpha = l.alpha x row := by
      cases hm : l.settings.maskMode <;>
        simp only [alpha, masked, turned, shaped, key, inside, KeyedLayer.alpha, scaledAlpha, maskedAlpha, shapedAlpha, keySignal_eq,
          ← inWindow_iff, hm]
    refine ⟨?_, fun j hj => ?_⟩
    · rw [alpha_eq]
      simp [scene, below, Scene.y]
    · subst hj
      rw [alpha_eq]
      simp [scene, below, Scene.cb, Scene.cr]

/-- Settles O11: with every layer at level 0 the scene is its background. -/
theorem programmeShowsItsSources : Obligations.ProgrammeShowsItsSources := by
  intro s ⟨hr, running⟩ hlen levels line held w shows y cb cr mixed pgm active
  have counting : Counting s := ⟨hr, Loader.unreadable_of_state _ (by simp [running])⟩
  have line_eq : line = s.raster.nextLine.line := by rw [s.raster.nextLine_eq]
  let scene := programmeScene s (s.pictureOn line)
  have still : ∀ l ∈ scene.layers, l.level = 0 := by
    simp only [scene, programmeScene, List.forall_mem_map]
    exact fun l _ => levels l
  have drawn : (startLine s).picture.pgm = renderLine s.raster.format s.picture.limits line scene := by
    rw [line_eq] at active
    simpa only [scene, line_eq] using (startLine_rendered running active).1
  have shown (a b c : Nat → Nat) (ha : ∀ x, scene.background.y s.raster.format x (frameRow s.raster.format line) = a x)
      (hb : ∀ j, scene.background.cb s.raster.format j (frameRow s.raster.format line) = b j)
      (hc : ∀ j, scene.background.cr s.raster.format j (frameRow s.raster.format line) = c j) :
      shows (startLine s).picture.pgm a b c := by
    simp only [shows, drawn, renderLine, outputLine, Scene.y_of_levels_zero still, Scene.cb_of_levels_zero still,
      Scene.cr_of_levels_zero still, ha, hb, hc]
    exact ⟨rfl, rfl, rfl⟩
  have single {p : LinePicture} (h : scene.background = .single p) : shows (startLine s).picture.pgm p.y p.cb p.cr :=
    shown _ _ _ (fun x => by rw [h]; rfl) (fun j => by rw [h]; rfl) (fun j => by rw [h]; rfl)
  have picture {n : Source} {l : VideoLine} (h : held n l) : s.pictureOn line n = .live l := by
    obtain ⟨e, older, newer, he, hb, hl, ho⟩ := h
    exact State.pictureOn_held hlen he hb hl ho
  refine ⟨startLine s, exec_lineStart_counting counting, fun h => ?_, fun hs hb ht a b ha hb' => ?_⟩
  · have background : scene.background = .single (s.pictureOn line pgm) := programmeScene_single h _
    exact ⟨fun l hl => single (background.trans (congrArg _ (picture hl))),
      fun e he absent => single (background.trans (congrArg _ (State.pictureOn_absent hlen he absent))),
      fun black => single (p := .flat .black) (background.trans (by rw [black, State.pictureOn_black])),
      fun matte => single (p := .flat s.picture.matte) (background.trans (by rw [matte, State.pictureOn_matte]))⟩
  · have background : scene.background = .mix (.live a) (.live b) s.engine.progress := by
      rw [← picture ha, ← picture hb']
      exact programmeScene_mix hs hb _ ht
    exact shown _ _ _ (fun x => by rw [background]; rfl) (fun x => by rw [background]; rfl) (fun x => by rw [background]; rfl)

end Sys2Proof.PictureArithmetic
end

section
/-! PROOF. The events of the raster: the counters run on to a line or are reloaded, and what a switch point, a cue deadline, a reference
field start and a miss check make of the generator and the outputs (R114 to R124). -/

namespace Sys2Proof.Machine

open Sys2Proof.Safety

/-! ## The counters run on to a line (log entry 5) -/

theorem linesAhead_self {f : Format} (a : Nat) : linesAhead f a a = 0 := by
  rw [linesAhead, Nat.add_sub_cancel_left, Nat.mod_self]

theorem foldl_min_linesAhead_le {f : Format} {a : Nat} {ls : List Nat} (best : Nat) :
    ls.foldl (fun best l => min best (linesAhead f a l)) best ≤ best ∧
      ∀ l ∈ ls, ls.foldl (fun best l => min best (linesAhead f a l)) best ≤ linesAhead f a l := by
  induction ls generalizing best with
  | nil => exact ⟨le_rfl, by simp⟩
  | cons x rest ih =>
    obtain ⟨start, each⟩ := ih (min best (linesAhead f a x))
    refine ⟨start.trans (min_le_left _ _), fun l hl => ?_⟩
    rcases List.mem_cons.1 hl with rfl | hl
    · exact start.trans (min_le_right _ _)
    · exact each l hl

theorem nearestAhead_le_of_mem {f : Format} {a l : Nat} {ls : List Nat} (h : l ∈ ls) : nearestAhead f a ls ≤ linesAhead f a l :=
  (foldl_min_linesAhead_le _).2 l h

/-- Counters that stand on one of the lines stay. -/
theorem Raster.runTo_of_mem {r : Raster} {ls : List Nat} (h : r.line ∈ ls) : r.runTo ls = r := by
  have zero : nearestAhead r.format r.line ls = 0 :=
    Nat.le_zero.1 ((nearestAhead_le_of_mem h).trans_eq (linesAhead_self r.line))
  simp only [runTo, zero]

/-- Others stand at the start of one of them. -/
theorem Raster.runTo_of_not_mem {r : Raster} {ls : List Nat} (hr : r.Placed) (hne : ls ≠ [])
    (hls : ∀ l ∈ ls, 1 ≤ l ∧ l ≤ frameLines r.format) (h : r.line ∉ ls) :
    ∃ l ∈ ls, r.runTo ls = { r with line := l, sample := 0 } := by
  obtain ⟨x, hx⟩ := List.exists_mem_of_ne_nil ls hne
  have below : nearestAhead r.format r.line ls < frameLines r.format :=
    (nearestAhead_le_of_mem hx).trans_lt (linesAhead_lt r.format r.line x)
  obtain ⟨l, hl, nearest⟩ := (nearestAhead_eq r.format r.line ls).resolve_left below.ne
  have lands := wrapLine_add_linesAhead hr.line.1 hr.line.2 (hls l hl).1 (hls l hl).2
  refine ⟨l, hl, ?_⟩
  rw [← nearest] at lands
  unfold runTo
  split
  · next zero =>
    rw [zero, Nat.add_zero, wrapLine, if_neg (Nat.not_lt.2 hr.line.2)] at lands
    exact absurd (lands ▸ hl) h
  · next k succ => rw [← lands, succ]

theorem Raster.switchLines_ne_nil (r : Raster) : r.switchLines ≠ [] := by
  unfold Raster.switchLines Machine.switchLines
  split <;> simp

theorem Raster.Placed.switchLines_range {r : Raster} (h : r.Placed) {l : Nat} (hl : l ∈ r.switchLines) :
    (1 ≤ l ∧ l ≤ frameLines r.format) ∧ isActiveLine r.format l = false := by
  obtain ⟨h1, h2, dark⟩ := mem_switchLines_bounds h.switchLine.1 h.switchLine.2 hl
  exact ⟨⟨h1, h2⟩, dark⟩

theorem Raster.deadlineLines_ne_nil (r : Raster) : r.deadlineLines ≠ [] := by
  unfold Raster.deadlineLines Machine.deadlineLines
  split <;> simp

theorem Raster.Placed.deadlineLines_range {r : Raster} (h : r.Placed) {l : Nat} (hl : l ∈ r.deadlineLines) :
    1 ≤ l ∧ l ≤ frameLines r.format := by
  obtain ⟨s1, s2⟩ := h.switchLine
  obtain ⟨g1, g2⟩ := h.guardLines
  have lines := frameLines_ge r.format
  unfold Raster.deadlineLines Machine.deadlineLines at hl
  split at hl
  · rcases List.mem_cons.1 hl with rfl | hl
    · omega
    · rw [List.mem_singleton.1 hl]
      exact wrapLine_range (by omega) (by omega)
  · rw [List.mem_singleton.1 hl]
    exact wrapLine_range (by omega) (by omega)

theorem Raster.missCheckLines_ne_nil (r : Raster) : r.missCheckLines ≠ [] := by
  unfold Raster.missCheckLines Machine.missCheckLines fieldsOf
  split <;> simp

theorem Raster.Placed.missCheckLines_range {r : Raster} (h : r.Placed) {l : Nat} (hl : l ∈ r.missCheckLines) :
    1 ≤ l ∧ l ≤ frameLines r.format := by
  obtain ⟨fi, -, rfl⟩ := List.mem_map.1 hl
  have expected := expectedLine_range r.format fi h.offsetLines
  have lines := frameLines_ge r.format
  exact wrapLine_range (by omega) (by omega)

/-! ## The line the counters come to stand on (R115) -/

/-- A move within the line starts no line. -/
theorem moveCounters_stays {r : Raster} {s : State} (h : r.line = s.raster.line) : moveCounters r s = s.setRaster r := if_pos h

/-- A move to another line starts it. -/
theorem moveCounters_moves {r : Raster} {s : State} (h : r.line ≠ s.raster.line) : moveCounters r s = beginLine (s.setRaster r) :=
  if_neg h

theorem moveCounters_drawnOn {r : Raster} {s : State} (h : r.line ≠ s.raster.line) :
    (moveCounters r s).picture.pgm.DrawnOn r.format s.picture.limits r.line ∧
      (moveCounters r s).picture.pvw.DrawnOn r.format s.picture.limits r.line := by
  rw [moveCounters_moves h]
  exact beginLine_drawnOn (s.setRaster r)

theorem moveCounters_outputs_only (r : Raster) (s : State) : (moveCounters r s).picture =
    { s.picture with pgm := (moveCounters r s).picture.pgm, pvw := (moveCounters r s).picture.pvw } := by
  unfold moveCounters
  split
  · rfl
  · exact beginLine_outputs_only (s.setRaster r)

/-- A move of the counters puts the generator's counters and its reference where it says. -/
@[simp] theorem moveCounters_generator (r : Raster) (s : State) :
    (moveCounters r s).raster.line = r.line ∧ (moveCounters r s).raster.sample = r.sample ∧
    (moveCounters r s).raster.deadlineFlag = r.deadlineFlag ∧ (moveCounters r s).raster.field = r.field ∧
    (moveCounters r s).raster.startSeen = r.startSeen ∧ (moveCounters r s).raster.missCount = r.missCount ∧
    (moveCounters r s).raster.refState = r.refState ∧ (moveCounters r s).raster.rate = r.rate := by
  rw [moveCounters_raster]
  exact ⟨rfl, rfl, rfl, rfl, rfl, rfl, rfl, rfl⟩

theorem State.setRaster_self (s : State) : s.setRaster s.raster = s := rfl

/-! ## The switch point (R122, R135) -/

theorem PortChanges.kept {p q : Port} (h : PortChanges p q) :
    q.budgetCount = p.budgetCount ∧ q.budgetField = p.budgetField ∧ q.attempt = p.attempt := by
  induction h with
  | refl => exact ⟨rfl, rfl, rfl⟩
  | tail _ step ih =>
    cases step with
    | refuse r =>
      unfold Port.refuse
      split <;> exact ih
    | pend => exact ih

theorem takeSwitchPoint_budget (s : State) : (takeSwitchPoint s).port.budgetCount = 0 ∧
    (takeSwitchPoint s).port.budgetField = s.raster.field + 1 ∧ (takeSwitchPoint s).port.attempt = s.port.attempt :=
  (takeSwitchPoint_changes s).kept

theorem takeSwitchPoint_loading {s : State} (h : s.loader.state = .loading) : takeSwitchPoint s =
    (openField s).setLoader { s.loader with loadingSwitchPoints := s.loader.loadingSwitchPoints + 1 } := by
  simp [takeSwitchPoint, h]

section
variable {s : State} (hc : Counting s)
include hc

theorem exec_switchPoint_clear (h : s.raster.deadlineFlag = false) : exec .switchPoint s = .next s := by
  rw [exec_switchPoint, whenCounting_released _ s hc.1 hc.2, if_neg (by simp [h])]

theorem exec_switchPoint_set (h : s.raster.deadlineFlag = true) :
    exec .switchPoint s = .next (takeSwitchPoint (moveCounters (s.raster.runTo s.raster.switchLines) s)) := by
  rw [exec_switchPoint, whenCounting_released _ s hc.1 hc.2, if_pos h]

theorem exec_cueDeadline_set (h : s.raster.deadlineFlag = true) : exec .cueDeadline s = .next s := by
  rw [exec_cueDeadline, whenCounting_released _ s hc.1 hc.2, if_pos h]

theorem exec_cueDeadline_clear (h : s.raster.deadlineFlag = false) :
    exec .cueDeadline s = .next (moveCounters (s.raster.runTo s.raster.deadlineLines).takeDeadline s) := by
  rw [exec_cueDeadline, whenCounting_released _ s hc.1 hc.2, if_neg (by simp [h])]

theorem exec_missCheck_free (h : s.raster.refState = .free) : exec .missCheck s = .next s := by
  rw [exec_missCheck, whenCounting_released _ s hc.1 hc.2, if_pos h]

theorem exec_missCheck_running (h : s.raster.refState ≠ .free) :
    exec .missCheck s = .next (moveCounters s.raster.runToMissCheck.checkMiss s) := by
  rw [exec_missCheck, whenCounting_released _ s hc.1 hc.2, if_neg h]

end

/-- Where the counters stand once they have run on to a switch line. -/
theorem runToSwitchLine {s : State} (h : s.raster.Placed) :
    ∃ l x, l ∈ s.raster.switchLines ∧ s.raster.runTo s.raster.switchLines = { s.raster with line := l, sample := x } ∧
      (s.raster.line ∈ s.raster.switchLines → l = s.raster.line ∧ x = s.raster.sample) ∧
      (s.raster.line ∉ s.raster.switchLines → l ≠ s.raster.line ∧ x = 0) := by
  by_cases on : s.raster.line ∈ s.raster.switchLines
  · exact ⟨s.raster.line, s.raster.sample, on, Raster.runTo_of_mem on, fun _ => ⟨rfl, rfl⟩, fun off => absurd on off⟩
  · obtain ⟨l, hl, run⟩ := Raster.runTo_of_not_mem h s.raster.switchLines_ne_nil (fun l hl => (h.switchLines_range hl).1) on
    exact ⟨l, 0, hl, run, fun h => absurd h on, fun _ => ⟨fun e => on (e ▸ hl), rfl⟩⟩

/-! ## The miss check (R121) -/

theorem Raster.checkMiss_place (r : Raster) : r.checkMiss =
    { r with startSeen := false, refState := r.checkMiss.refState, missCount := r.checkMiss.missCount, rate := r.checkMiss.rate } := by
  unfold checkMiss
  exact Raster.leaveLock_place _

theorem Raster.leaveLock_stays {r : Raster} (h : r.missCount < 3) : r.leaveLock = r :=
  if_neg (by simpa [Config.missLimit] using h)

theorem Raster.leaveLock_leaves {r : Raster} (h : 3 ≤ r.missCount) :
    r.leaveLock = { r with refState := .free, missCount := 0, rate := .nominal } :=
  if_pos h

theorem Raster.checkMiss_seen {r : Raster} (hs : r.startSeen = true) (hm : r.missCount < 3) :
    r.checkMiss = { r with startSeen := false } := by
  simp [checkMiss, hs, leaveLock_stays, hm]

theorem Raster.checkMiss_missed {r : Raster} (hs : r.startSeen = false) (hm : r.missCount < 2) :
    r.checkMiss = { r with startSeen := false, missCount := r.missCount + 1 } := by
  simp [checkMiss, hs, leaveLock_stays, show r.missCount + 1 < 3 by omega]

theorem Raster.checkMiss_leaves {r : Raster} (hs : r.startSeen = false) (hm : r.missCount = 2) :
    r.checkMiss = { r with startSeen := false, refState := .free, missCount := 0, rate := .nominal } := by
  simp [checkMiss, hs, hm, leaveLock_leaves]

/-- Where the counters stand at a miss check. -/
theorem runToMissCheck_eq {r : Raster} (h : r.Placed) : ∃ l x, l ∈ r.missCheckLines ∧
    r.runToMissCheck = { r with line := l, sample := x } ∧ (r.line ∈ r.missCheckLines → l = r.line) := by
  by_cases on : r.line ∈ r.missCheckLines
  · exact ⟨r.line, max r.sample r.offsetSamples, on, by simp [Raster.runToMissCheck, Raster.runTo_of_mem on], fun _ => rfl⟩
  · obtain ⟨l, hl, run⟩ := Raster.runTo_of_not_mem h r.missCheckLines_ne_nil (fun l hl => h.missCheckLines_range hl) on
    exact ⟨l, r.offsetSamples, hl, by simp [Raster.runToMissCheck, run], fun h => absurd h on⟩

/-! ## A reference field start (R116 to R120, R124) -/

theorem exec_referenceFieldStart_taken {s : State} (hc : Counting s) {field : FieldId} (hf : field ∈ fieldsOf s.raster.format) :
    exec (.referenceFieldStart s.raster.format field) s = .next (takeReferenceStart field s) := by
  rw [exec_referenceFieldStart, whenCounting_released _ s hc.1 hc.2, if_pos ⟨rfl, hf⟩]

theorem exec_referenceFieldStart_other {s : State} (hc : Counting s) {format : Format} (h : format ≠ s.raster.format)
    (field : FieldId) : exec (.referenceFieldStart format field) s = .next s := by
  rw [exec_referenceFieldStart, whenCounting_released _ s hc.1 hc.2, if_neg (fun both => h both.1)]

/-- The generator once a start has been taken in LOCKED, or has locked. -/
def Raster.lockedAt (r : Raster) (rate : SampleRate) : Raster :=
  { r with refState := .locked, missCount := 0, startSeen := true, rate := rate }

theorem takeReferenceStart_free {s : State} (fi : FieldId) (h : s.raster.refState = .free) : takeReferenceStart fi s =
    s.setRaster { s.raster with refState := .realign, missCount := 0, startSeen := true } := by
  simp [takeReferenceStart, h]

/-- A start that reloads does so on a generator that is locked. -/
theorem takeReferenceStart_reloads {s : State} (fi : FieldId) (h : s.raster.refState = .realign ∨
      s.raster.refState = .locked ∧ 2 * lineSamples s.raster.format < (s.raster.deviation fi).natAbs) :
    ∃ rate, takeReferenceStart fi s = reload fi (s.raster.deviation fi) (s.setRaster (s.raster.lockedAt rate)) := by
  rcases h with h | ⟨h, far⟩
  · refine ⟨.disciplined (s.raster.countsToNextStart fi 0), ?_⟩
    simp [takeReferenceStart, h, Raster.lockedAt]
  · have unmatched : isMatching s.raster.format (s.raster.deviation fi) = false := by simpa [isMatching] using far
    refine ⟨.disciplined (s.raster.countsToNextStart fi 0), ?_⟩
    simp [takeReferenceStart, h, unmatched, Raster.lockedAt]

theorem takeReferenceStart_follows {s : State} (fi : FieldId) (h : s.raster.refState = .locked)
    (near : (s.raster.deviation fi).natAbs ≤ 2 * lineSamples s.raster.format) : ∃ counts, takeReferenceStart fi s =
      s.setRaster { s.raster with missCount := 0, startSeen := true, rate := .disciplined counts } := by
  have matched : isMatching s.raster.format (s.raster.deviation fi) = true := by simpa [isMatching] using near
  exact ⟨s.raster.countsToNextStart fi (s.raster.deviation fi), by simp [takeReferenceStart, h, matched]⟩

theorem framePosition_lt {f : Format} {line sample : Nat} (hl : 1 ≤ line ∧ line ≤ frameLines f) (hs : sample < lineSamples f) :
    framePosition f line sample < frameSamples f := by
  have rows : (line - 1 + 1) * lineSamples f ≤ frameLines f * lineSamples f := Nat.mul_le_mul_right _ (by omega)
  rw [Nat.succ_mul] at rows
  unfold framePosition frameSamples
  omega

/-- Two places at one position are one place. -/
theorem framePosition_inj {f : Format} {l l' x x' : Nat} (hl : 1 ≤ l) (hl' : 1 ≤ l') (hx : x < lineSamples f)
    (hx' : x' < lineSamples f) (h : framePosition f l x = framePosition f l' x') : l = l' ∧ x = x' := by
  unfold framePosition at h
  have quotient (n y : Nat) (hy : y < lineSamples f) : (n * lineSamples f + y) / lineSamples f = n := by
    rw [Nat.mul_comm, Nat.mul_add_div (lineSamples_pos f), Nat.div_eq_of_lt hy, Nat.add_zero]
  have lines : l - 1 = l' - 1 := by rw [← quotient (l - 1) x hx, h, quotient _ _ hx']
  rw [lines] at h
  omega

theorem deviation_eq_zero {f : Format} {a b : Nat} (ha : a < frameSamples f) (hb : b < frameSamples f)
    (h : deviation f a b = 0) : a = b := by
  have past := Nat.mod_lt (a + frameSamples f - b) (Nat.zero_lt_of_lt ha)
  have zero : (a + frameSamples f - b) % frameSamples f = 0 := by
    simp only [deviation] at h
    split at h <;> omega
  obtain ⟨k, hk⟩ := Nat.dvd_of_mod_eq_zero zero
  have one : k = 1 := by
    have low : 0 < k := Nat.pos_of_ne_zero fun e => by rw [e, Nat.mul_zero] at hk; omega
    have high : k < 2 := Nat.lt_of_mul_lt_mul_left (a := frameSamples f) (by omega)
    omega
  rw [one, Nat.mul_one] at hk
  omega

/-- At deviation 0 the counters stand where the start is expected. -/
theorem Raster.Placed.at_expected {r : Raster} (h : r.Placed) {fi : FieldId} (dev : r.deviation fi = 0) :
    r.line = expectedLine r.format fi r.offsetLines ∧ r.sample = r.offsetSamples := by
  have expected := expectedLine_range r.format fi h.offsetLines
  exact framePosition_inj h.line.1 expected.1 h.sample h.offsetSamples
    (deviation_eq_zero (framePosition_lt h.line h.sample) (framePosition_lt expected h.offsetSamples) dev)

theorem Raster.crossesDeadline_iff (r : Raster) (n : Nat) : r.crossesDeadline n = true ↔
    ∃ d ∈ r.deadlineLines, linesAhead r.format r.line d ≤ linesAhead r.format r.line n := by
  simp [crossesDeadline]

/-- The deadline flag after a reload that moves the counters (R123, R124). -/
theorem Raster.reload_deadlineFlag_iff (r : Raster) (fi : FieldId) {dev : Int} (h : dev ≠ 0) :
    (r.reload fi dev).deadlineFlag = true ↔ r.deadlineFlag = true ∨
      (dev < 0 ∧ ∃ d ∈ r.deadlineLines,
        linesAhead r.format r.line d ≤ linesAhead r.format r.line (expectedLine r.format fi r.offsetLines)) ∨
      expectedLine r.format fi r.offsetLines ∈ r.deadlineLines := by
  simp [reload, h, Raster.crossesDeadline_iff, or_assoc]

/-- What a reload that moves the counters comes to: the counters at the expected point, the line there started unless they stay within
theirs, and then the switch point that is due there. -/
theorem reload_lands (fi : FieldId) {dev : Int} (h : dev ≠ 0) (s : State) :
    ∃ t, reload fi dev s = meetSwitchPoint t ∧
      t.raster = { s.raster.reload fi dev with startedLines := t.raster.startedLines } ∧
      t = ((s.setRaster t.raster).setMonitor t.monitor).setPicture t.picture ∧
      ((s.raster.reload fi dev).line ≠ s.raster.line ∨ s.raster.offsetSamples = 0 →
        t.picture.pgm.DrawnOn s.raster.format s.picture.limits (s.raster.reload fi dev).line ∧
          t.picture.pvw.DrawnOn s.raster.format s.picture.limits (s.raster.reload fi dev).line) := by
  obtain ⟨t, reloads, raster, ⟨line, sample, rfl⟩ | ⟨-, rfl⟩⟩ := reload_moves fi dev s h
  · exact ⟨_, reloads, raster, rfl, fun moves => absurd moves (not_or.2 ⟨not_not.2 line, sample⟩)⟩
  · exact ⟨_, reloads, raster, beginLine_changes _, fun _ => beginLine_drawnOn _⟩

theorem State.switchPointDue_iff (s : State) :
    s.switchPointDue = true ↔ s.raster.deadlineFlag = true ∧ s.raster.line ∈ s.raster.switchLines := by
  simp [switchPointDue]

end Sys2Proof.Machine

namespace Sys2Proof.RasterAndReference

open Sys2Proof Sys2Proof.Machine Sys2Proof.Safety

/-- Settles O13: the counters run on to a switch line, whose switch point opens the field there. -/
theorem switchPointOpensTheNextField : Obligations.SwitchPointOpensTheNextField := by
  refine ⟨fun s hc sound => ⟨fun set => ?_, fun clear => exec_switchPoint_clear hc clear⟩, fun s hc sound loading set => ?_⟩
  · obtain ⟨l, x, hl, run, stays, moves⟩ := runToSwitchLine (countersSound_iff.1 sound)
    have dark := ((countersSound_iff.1 sound).switchLines_range hl).2
    have executed := exec_switchPoint_set hc set
    rw [run] at executed
    let u := moveCounters { s.raster with line := l, sample := x } s
    have raster : u.raster = { s.raster with line := l, sample := x, startedLines := u.raster.startedLines } :=
      moveCounters_raster _ s
    obtain ⟨opened, picture, -, pending⟩ := takeSwitchPoint_frame u
    obtain ⟨count, budget, attempt⟩ := takeSwitchPoint_budget u
    have field : u.raster.field = s.raster.field := by rw [raster]
    have line : u.raster.line = l := congrArg Raster.line raster
    have format : u.raster.format = s.raster.format := by rw [raster]
    refine ⟨takeSwitchPoint u, executed, by rw [opened]; rfl, ?_, ?_, ?_, count, budget.trans (congrArg (· + 1) field),
      attempt.trans (congrArg Port.attempt (moveCounters_frame _ s).2.1), ?_, ?_, pending.trans (by simp [u]), fun on => ?_,
      fun off => ?_⟩
    · rw [opened, ← field]; rfl
    · rw [opened, Raster.openField, line]; exact hl
    · rw [opened, ← format]; rfl
    · rw [opened, Raster.openField, raster]
    · rw [opened, Raster.openField, raster]
    · obtain ⟨rfl, rfl⟩ := stays on
      have same : u = s := moveCounters_stays rfl
      rw [opened, picture, same]
      exact ⟨rfl, rfl, rfl⟩
    · obtain ⟨other, rfl⟩ := moves off
      obtain ⟨pgm, pvw⟩ := moveCounters_drawnOn (r := { s.raster with line := l, sample := 0 }) (s := s) other
      rw [opened, picture, Raster.openField]
      exact ⟨congrArg Raster.sample raster, pgm.line.trans line.symm, pvw.line.trans line.symm, pgm.blankingFlag.2 dark,
        pvw.blankingFlag.2 dark⟩
  · refine ⟨_, exec_switchPoint_set hc set, ?_⟩
    have monitor := moveCounters_switchLine_monitor sound
    have outputs := moveCounters_outputs_only (s.raster.runTo s.raster.switchLines) s
    have changes := moveCounters_changes (s.raster.runTo s.raster.switchLines) s
    have field : (moveCounters (s.raster.runTo s.raster.switchLines) s).raster.field = s.raster.field := by
      obtain ⟨l, x, -, run, -⟩ := runToSwitchLine (countersSound_iff.1 sound)
      rw [moveCounters_raster, run]
    rw [takeSwitchPoint_loading (by simpa using loading)]
    generalize moveCounters (s.raster.runTo s.raster.switchLines) s = u at monitor outputs changes field ⊢
    rw [monitor, outputs] at changes
    rw [← field, changes]
    rfl

/-- Settles O14: the counters run on to a deadline line. -/
theorem cueDeadlineSetsTheFlag : Obligations.CueDeadlineSetsTheFlag := by
  refine fun s hc sound => ⟨fun clear => ⟨_, exec_cueDeadline_clear hc clear, ?_⟩, fun set => exec_cueDeadline_set hc set⟩
  have placed := countersSound_iff.1 sound
  by_cases on : s.raster.line ∈ s.raster.deadlineLines
  · rw [Raster.runTo_of_mem on, moveCounters_stays (r := s.raster.takeDeadline) (s := s) rfl]
    exact ⟨rfl, on, rfl, fun _ => rfl, fun off => absurd on off, rfl, rfl⟩
  · obtain ⟨l, hl, run⟩ := Raster.runTo_of_not_mem placed s.raster.deadlineLines_ne_nil
      (fun l hl => placed.deadlineLines_range hl) on
    rw [run]
    let r := Raster.takeDeadline { s.raster with line := l, sample := 0 }
    obtain ⟨line, sample, flag, field, -⟩ := moveCounters_generator r s
    obtain ⟨pgm, pvw⟩ := moveCounters_drawnOn (r := r) (s := s) fun e => on (e ▸ hl)
    refine ⟨flag, line.symm ▸ hl, field, fun h => absurd h on,
      fun _ => ⟨sample, pgm.line.trans line.symm, pvw.line.trans line.symm⟩, ?_, moveCounters_changes r s⟩
    show (moveCounters r s).raster = { s.raster with
      line := (moveCounters r s).raster.line, sample := (moveCounters r s).raster.sample, deadlineFlag := true,
      startedLines := (moveCounters r s).raster.startedLines }
    rw [line, sample]
    exact moveCounters_raster r s

/-- Settles O16: the check is made where the counters have run on to, and its three outcomes are those of the miss count. -/
theorem missesLeaveLockAtThree : Obligations.MissesLeaveLockAtThree := by
  refine ⟨fun s hc sound => ⟨fun running => ⟨_, exec_missCheck_running hc running, ?_⟩, fun free => exec_missCheck_free hc free⟩,
    fun s hr => ⟨fun limit => ?_, fun below => ?_⟩⟩
  · obtain ⟨l, x, hl, run, stays⟩ := runToMissCheck_eq (countersSound_iff.1 sound)
    rw [run]
    let r : Raster := { s.raster with line := l, sample := x }
    have check := r.checkMiss_place
    obtain ⟨line, -, flag, -, seen, misses, state, rate⟩ := moveCounters_generator r.checkMiss s
    have here : r.checkMiss.line = l := by rw [check]
    refine ⟨moveCounters_changes r.checkMiss s, fun on => ?_, fun off => ?_, seen.trans (by rw [check]),
      (line.trans here).symm ▸ hl, flag.trans (by rw [check]), fun started low => ?_, fun missed low => ?_, fun missed third => ?_⟩
    · have still : moveCounters r.checkMiss s = s.setRaster r.checkMiss := moveCounters_stays (here.trans (stays on))
      show moveCounters r.checkMiss s = _
      rw [still]
      rfl
    · obtain ⟨pgm, pvw⟩ := moveCounters_drawnOn (r := r.checkMiss) (s := s) fun e => off (e ▸ here ▸ hl)
      exact ⟨pgm.line.trans line.symm, pvw.line.trans line.symm⟩
    · have outcome : r.checkMiss = _ := Raster.checkMiss_seen started low
      exact ⟨misses.trans (by rw [outcome]), state.trans (by rw [outcome]), rate.trans (by rw [outcome])⟩
    · have outcome : r.checkMiss = _ := Raster.checkMiss_missed missed low
      exact ⟨misses.trans (by rw [outcome]), state.trans (by rw [outcome]), rate.trans (by rw [outcome])⟩
    · have outcome : r.checkMiss = _ := Raster.checkMiss_leaves missed third
      exact ⟨misses.trans (by rw [outcome]), state.trans (by rw [outcome]), rate.trans (by rw [outcome])⟩
  · rw [exec_released hr (f := fun s => s.setRaster s.raster.leaveLock) rfl, Raster.leaveLock_leaves limit]
  · rw [exec_released hr (f := fun s => s.setRaster s.raster.leaveLock) rfl, Raster.leaveLock_stays below]
    rfl

/-- Settles O15: a reload lands on the expected point, and its switch point is due there when the line is a switch line and the flag is
set. -/
theorem referenceStartsRealignAndLock : Obligations.ReferenceStartsRealignAndLock := by
  refine ⟨fun s format field hc => ⟨fun same hf free => ?_, fun other => exec_referenceFieldStart_other hc other field⟩,
    fun s field hc sound hf => ?_⟩
  · subst same
    rw [exec_referenceFieldStart_taken hc hf, takeReferenceStart_free field free]
  intro f dev newLine passed flag reloads
  refine ⟨fun again still => ?_, fun again moved => ?_, fun ⟨locked, near⟩ => ?_⟩
  · obtain ⟨rate, taken⟩ := takeReferenceStart_reloads field again
    have here := (countersSound_iff.1 sound).at_expected still
    have stays : (s.raster.lockedAt rate).reload field 0 = s.raster.lockedAt rate := by
      simp [Raster.reload, Raster.lockedAt, ← here]
    refine ⟨_, exec_referenceFieldStart_taken hc hf, ?_⟩
    rw [taken, show s.raster.deviation field = 0 from still, reload_still, State.setRaster_raster, stays]
    rfl
  · obtain ⟨rate, taken⟩ := takeReferenceStart_reloads field again
    obtain ⟨t, lands, raster, changes, drawn⟩ := reload_lands field moved (s.setRaster (s.raster.lockedAt rate))
    have executed : exec (.referenceFieldStart f field) s = .next (meetSwitchPoint t) := by
      rw [exec_referenceFieldStart_taken hc hf, taken, lands]
    have format : t.raster.format = f := by rw [raster]; rfl
    have state : t.raster.refState = .locked := by rw [raster]; rfl
    have misses : t.raster.missCount = 0 := by rw [raster]; rfl
    have line : t.raster.line = newLine := by rw [raster]; rfl
    have sample : t.raster.sample = s.raster.offsetSamples := by rw [raster]; rfl
    have field : t.raster.field = s.raster.field := by rw [raster]; rfl
    have switches : t.raster.switchLines = s.raster.switchLines := by rw [raster]; rfl
    have flagged : t.raster.deadlineFlag = true ↔ flag := by
      rw [raster]
      exact (s.raster.lockedAt rate).reload_deadlineFlag_iff _ moved
    have due : t.switchPointDue = true ↔ flag ∧ newLine ∈ s.raster.switchLines := by
      rw [State.switchPointDue_iff, flagged, line, switches]
    have shown : newLine ≠ s.raster.line ∨ s.raster.offsetSamples = 0 → t.picture.pgm.line = newLine ∧
        t.picture.pvw.line = newLine ∧ (t.picture.pgm.blankingFlag = true ↔ isActiveLine f newLine = false) := fun moves =>
      ⟨(drawn moves).1.line, (drawn moves).2.line, (drawn moves).1.blankingFlag⟩
    refine ⟨meetSwitchPoint t, executed, ?_⟩
    by_cases opens : t.switchPointDue = true
    · obtain ⟨opened, picture, -⟩ := takeSwitchPoint_frame t
      obtain ⟨set, on⟩ := due.1 opens
      rw [meetSwitchPoint_due t opens, opened, picture]
      refine ⟨state, misses, line, sample, shown, fun _ _ => ⟨rfl, congrArg (· + 1) field, ?_⟩, fun neither => ?_⟩
      · rw [Raster.openField, format, line]
      · exact (neither.elim (· on) (· set)).elim
    · rw [meetSwitchPoint_none t (by simpa using opens)]
      exact ⟨state, misses, line, sample, shown, fun on set => absurd (due.2 ⟨set, on⟩) opens,
        fun _ => ⟨flagged, field, changes⟩⟩
  · obtain ⟨counts, follows⟩ := takeReferenceStart_follows field locked near
    exact ⟨_, exec_referenceFieldStart_taken hc hf, by rw [follows]; rfl, by rw [follows]; simp⟩

end Sys2Proof.RasterAndReference
end

section
/-! PROOF. Inputs, key mixes and completions: what an arriving line and an absence record, the ticks and leaks, RESTORE, the end of an own
key mix, and the exchange of a completion (R29, R47, R95, R100, R103, R105, R109). -/

namespace Sys2Proof.Machine

open Sys2Proof.Safety

/-! ## Inputs (R100, R103, R105, R109) -/

section
variable {s : State} (hr : Released s)
include hr

theorem exec_inputLineArrival (i : InputNo) (l : VideoLine) : exec (.inputLineArrival i l) s =
    .next (s.setMonitor (s.monitor.modify i fun r => r.arrive s.raster s.monitor.window l)) :=
  exec_released hr (f := fun s => s.setMonitor (s.monitor.modify i fun r => r.arrive s.raster s.monitor.window l)) rfl

theorem exec_absence (i : InputNo) :
    exec (.absence i) s = .next (s.setMonitor (s.monitor.modify i fun r => { r with absenceSeen := true })) :=
  exec_released hr (f := fun s => s.setMonitor (s.monitor.modify i fun r => { r with absenceSeen := true })) rfl

theorem exec_primaryTick : exec .primaryTick s = .next (s.setMonitor s.monitor.tick) :=
  exec_released hr (f := fun s => s.setMonitor s.monitor.tick) rfl

theorem exec_leakDue (i : InputNo) : exec (.leakDue i) s = .next (s.setMonitor (s.monitor.modify i InputRecord.leak)) :=
  exec_released hr (f := fun s => s.setMonitor (s.monitor.modify i InputRecord.leak)) rfl

end

/-- A line of the configured format is checked, and joins the buffer when it is active and not late. -/
theorem InputRecord.arrive_ofFormat {raster : Raster} {l : VideoLine} (h : ofFormat raster.format l = true) (r : InputRecord)
    (window : Nat) : r.arrive raster window l =
      { r with
        checkFailureSeen := r.checkFailureSeen || lineCheck l.y l.cb l.cr != l.check,
        buffer := if isActiveLine raster.format l.line && !raster.hasStarted l.line then bufferAppend window r.buffer l
          else r.buffer } := by
  simp [arrive, h]

theorem Monitor.get_modify_same {m : Monitor} (h : m.inputs.length = 12) (i : InputNo) (f : InputRecord → InputRecord) :
    (m.modify i f).get i = f (m.get i) := by
  simp [Monitor.get_modify m i i f h]

theorem Monitor.get_modify_other {m : Monitor} (h : m.inputs.length = 12) {i j : InputNo} (hj : j ≠ i)
    (f : InputRecord → InputRecord) : (m.modify i f).get j = m.get j := by
  simp [Monitor.get_modify m i j f h, hj]

/-! ## The own key mix (R47) -/

theorem advanceMix_below {r : LayerRecord} (hm : r.moving = false) (hs : r.state = .rising ∨ r.state = .falling)
    (h : r.elapsed + 1 < r.settings.rate) : advanceMix r =
      { r with elapsed := r.elapsed + 1, level := mixLevel r.state.endsOn (r.elapsed + 1) r.settings.rate } := by
  have own : r.ownMix = true := by rcases hs with hs | hs <;> simp [LayerRecord.ownMix, hm, hs, LayerState.isMoving]
  simp [advanceMix, own, settleMix, Nat.not_le.2 h]

theorem advanceMix_ends {r : LayerRecord} (hm : r.moving = false) (hs : r.state = .rising ∨ r.state = .falling)
    (h : r.settings.rate ≤ r.elapsed + 1) : advanceMix r =
      { r with state := restState r.state.endsOn, level := restLevel r.state.endsOn, elapsed := 0 } := by
  have own : r.ownMix = true := by rcases hs with hs | hs <;> simp [LayerRecord.ownMix, hm, hs, LayerState.isMoving]
  simp [advanceMix, own, settleMix, h, restLayer, hm]

theorem LayerRecord.mixDue_iff (r : LayerRecord) : r.mixDue = true ↔
    r.moving = false ∧ (r.state = .rising ∨ r.state = .falling) ∧ r.settings.rate ≤ r.elapsed + 1 := by
  cases hs : r.state <;> simp [mixDue, ownMix, hs, LayerState.isMoving]

/-! ## A layer outside the transition (R21, R43) -/

/-- A layer that neither moves with the transition nor is in the key mask stands through the engine's advance. -/
theorem advanceEngine_get_still {s : State} {l : Layer} (hm : s.engine.selection.mask l = false)
    (hl : (s.keys.get l).moving = false) : (advanceEngine s).keys.get l = s.keys.get l := by
  have completes {u : State} (h : (u.keys.get l) = s.keys.get l) : (complete u).keys.get l = s.keys.get l := by
    rw [complete_get, h, landLayer, if_neg (by simp [hl])]
  have abandons {u : State} (h : (u.keys.get l) = s.keys.get l) : (abandon u).keys.get l = s.keys.get l := by
    rw [abandon_get, h, returnLayer_still hl]
  have follows {u : State} (p : Nat) (h : (u.keys.get l) = s.keys.get l) : (setProgress p u).keys.get l = s.keys.get l := by
    rw [setProgress_get, h, followProgress_still p hl]
  have lever {u : State} (d : Nat) (h : (u.keys.get l) = s.keys.get l) : (followLever d u).keys.get l = s.keys.get l := by
    unfold followLever
    split
    · exact completes h
    · split
      · exact abandons h
      · exact follows d h
  have evaluates : (evaluate s).keys.get l = s.keys.get l := by
    unfold evaluate
    split
    · rfl
    · next position _ =>
      split
      · by_cases starts : StartsTransition s.engine (derivedProgress s.engine.sense position)
        · rw [evaluateIdle_starts starts]
          split
          · exact completes (leverStart_get_still _ hm hl)
          · exact leverStart_get_still _ hm hl
        · rw [evaluateIdle_picksUp starts]
          rfl
      · simp only [evaluateLever]
        split
        · exact lever _ rfl
        · split
          · exact lever _ rfl
          · rfl
      · rfl
  unfold advanceEngine
  split
  · simp only [advanceRun, settleRun]
    split
    · exact completes rfl
    · exact follows _ rfl
  · exact evaluates
  · exact evaluates

/-! ## A switch point with no entry waiting (R160) -/

theorem offerDue_of_empty (c : Nat) {s : State} (h : s.intake.queue = []) : offerDue c s = s := by
  simp only [offerDue, h, List.filter_nil, offerAll, List.nil_append]
  rw [← h]
  rfl

/-- The layers are then those the advances leave. -/
theorem takeSwitchPoint_keys_of_empty {s : State} (hl : s.loader.state ≠ .loading) (hq : s.intake.queue = []) :
    (takeSwitchPoint s).keys = (advanceAll (openField s)).keys := by
  have offers (c : Nat) (u : State) (hu : u.intake.queue = []) : (runField c u).keys = u.keys := by
    simp [runField, offerDue_of_empty c (s := breakCycle (expireUpTo c 0 u)) (by simpa using hu)]
  have opened : (openField s).loader.state ≠ .loading := by simpa using hl
  simp only [takeSwitchPoint, opened, if_false]
  unfold workField
  split
  · next h => exact absurd h opened
  · simp [offers _ _ (show (advanceAll (openField s)).intake.queue = [] by simpa using hq)]
  · simp
  · simp

theorem advanceAll_get (s : State) (l : Layer) :
    (advanceAll s).keys.get l = advanceMix ((advanceEngine (s.setPeers s.peers.grow)).keys.get l) := by
  simp [advanceAll, advanceKeys]

theorem exec_switchPoint_here {s : State} (hc : Counting s) (hf : s.raster.deadlineFlag = true)
    (on : s.raster.line ∈ s.raster.switchLines) : exec .switchPoint s = .next (takeSwitchPoint s) := by
  rw [exec_switchPoint_set hc hf, Raster.runTo_of_mem on, moveCounters_stays rfl, State.setRaster_self]

section
variable {s : State} (hr : Released s) {l : Layer}
include hr

theorem exec_keyMixEnds : exec (.keyMixEnds l) s =
    .next (if s.switchPointDue ∧ s.loader.state ≠ .loading ∧ (s.keys.get l).mixDue then takeSwitchPoint s else s) :=
  exec_released hr (f := fun s =>
    if s.switchPointDue ∧ s.loader.state ≠ .loading ∧ (s.keys.get l).mixDue then takeSwitchPoint s else s) rfl

theorem exec_keyMixEnds_due (hd : s.switchPointDue = true) (hl : s.loader.state ≠ .loading) (he : (s.keys.get l).mixDue = true) :
    exec (.keyMixEnds l) s = .next (takeSwitchPoint s) := by
  rw [exec_keyMixEnds hr, if_pos ⟨hd, hl, he⟩]

theorem exec_keyMixEnds_idle (h : ¬ (s.switchPointDue = true ∧ s.loader.state ≠ .loading ∧ (s.keys.get l).mixDue = true)) :
    exec (.keyMixEnds l) s = .next s := by
  rw [exec_keyMixEnds hr, if_neg h]

end

/-! ## Completion (R29, R31, R95) -/

theorem exec_completion {s : State} (hr : Released s) (h : s.engine.completionDue = true) :
    exec .completion s = .next (deriveSets (resolveSources (complete s))) := by
  have executed := exec_released hr (c := .completion)
    (f := fun s => if s.engine.completionDue then deriveSets (resolveSources (complete s)) else s) rfl
  rw [executed, if_pos h]

theorem Engine.completionDue_iff (e : Engine) : e.completionDue = true ↔
    (e.state = .auto ∧ e.remaining ≤ e.elapsed) ∨
      (e.state = .lever ∧ e.engaged = true ∧ ∃ position, e.latest = some position ∧ 1008 ≤ derivedProgress e.sense position) := by
  cases hs : e.state with
  | idle => simp [completionDue, hs]
  | auto => simp [completionDue, hs]
  | lever => cases hl : e.latest <;> simp [completionDue, hs, hl, atFarEnd]

theorem complete_crosspoint (s : State) : (complete s).crosspoint =
    { s.crosspoint with
      buses := if s.engine.selection.background then swapBuses s.crosspoint.buses else s.crosspoint.buses } := by
  show (if s.engine.selection.background then { s.crosspoint with buses := swapBuses s.crosspoint.buses } else s.crosspoint) = _
  split <;> rfl

theorem complete_stack (s : State) : (complete s).keys.stack = s.keys.stack := rfl

/-- A completion changes the engine, the layers and the buses alone. -/
theorem complete_changes (s : State) : complete s = ((s.setEngine (complete s).engine).setKeys (complete s).keys).setCrosspoint
    { s.crosspoint with buses := (complete s).crosspoint.buses } := by
  have cross : (complete s).crosspoint = { s.crosspoint with buses := (complete s).crosspoint.buses } := by rw [complete_crosspoint]
  rw [← cross]
  rfl

theorem swapBuses_get_other (b : Buses) {bus : Bus} (h : bus ≠ .pgm ∧ bus ≠ .pst) : (swapBuses b).get bus = b.get bus := by
  cases bus with
  | pgm => exact absurd rfl h.1
  | pst => exact absurd rfl h.2
  | _ => rfl

/-- A bus after its sources are resolved anew: its selection stands, and its effective source is the resolution of it. -/
theorem resolveSources_get (s : State) (b : Bus) : (resolveSources s).crosspoint.buses.get b =
    { s.crosspoint.buses.get b with
      effective := resolveSource s.crosspoint s.monitor (s.crosspoint.buses.get b).selected } := by
  simp [resolveSources, resolveBuses]

end Sys2Proof.Machine

namespace Sys2Proof.InputCondition

open Sys2Proof Sys2Proof.Machine Sys2Proof.Safety

/-- Settles O17. -/
theorem inputEventsAreRecorded : Obligations.InputEventsAreRecorded := by
  refine ⟨fun s i l hr hlen hf => ?_, fun s i hr hlen => ?_⟩
  · refine ⟨_, exec_inputLineArrival hr i l, rfl, rfl, fun j hj => Monitor.get_modify_other hlen hj _, ?_⟩
    rw [State.setMonitor_monitor, Monitor.get_modify_same hlen, InputRecord.arrive_ofFormat hf]
    refine ⟨by simp, fun ⟨active, fresh⟩ => ⟨fun room => ?_, fun full => ?_⟩, fun late => ?_, rfl, rfl, rfl, rfl, rfl⟩
    · simp [active, fresh, bufferAppend, Nat.not_le.2 room]
    · simp [active, fresh, bufferAppend, full]
    · rcases late with h | h <;> simp [h]
  · exact ⟨_, exec_absence hr i, rfl, Monitor.get_modify_same hlen i _, fun j hj => Monitor.get_modify_other hlen hj _⟩

/-- Settles O21. -/
theorem ticksAdvanceDividersAndLeaks : Obligations.TicksAdvanceDividersAndLeaks := by
  refine ⟨fun s hr => ⟨fun period reached => ?_, fun none => ?_⟩, fun s i hr hlen due => ?_⟩
  · rw [exec_primaryTick hr, Monitor.tick, if_pos ⟨period, reached⟩]
  · rw [exec_primaryTick hr, Monitor.tick, if_neg (by omega)]
    rfl
  · refine ⟨_, exec_leakDue hr i, rfl, ?_⟩
    rw [State.setMonitor_monitor, Monitor.get_modify_same hlen, InputRecord.leak, if_pos due]
    refine ⟨rfl, ?_, rfl, fun j hj => Monitor.get_modify_other hlen hj _⟩
    show (s.monitor.get i).count - 1 = _
    split <;> omega

/-- Settles O48. -/
theorem restoreClearsFailed : Obligations.RestoreClearsFailed := by
  intro s i hlen
  refine ⟨fun healthy => by simp [offerRestore, healthy], fun failed below => ?_, fun failed reached => ?_⟩
  · let restored := s.monitor.modify i fun r => { r with health := if r.count = 0 then .clean else .suspect }
    exact ⟨s.setMonitor restored, by simp [offerRestore, failed, below, restored], rfl, Monitor.get_modify_same hlen i _,
      fun j hj => Monitor.get_modify_other hlen hj _⟩
  · simp [offerRestore, failed, Nat.not_lt.2 reached]

end Sys2Proof.InputCondition

namespace Sys2Proof.KeyLayers

open Sys2Proof Sys2Proof.Machine Sys2Proof.Safety

/-- Settles O20: the event is the switch point itself, through which the layer outside the key mask makes its own advance alone. -/
theorem keyMixEndsAtRest : Obligations.KeyMixEndsAtRest := by
  refine ⟨fun r hm => ⟨fun hs h => ?_, fun hs h => ?_, fun hs h => ?_, fun hs h => ?_⟩, fun s l hr hl => ?_⟩
  · rw [advanceMix_below hm (.inl hs) h, hs]; rfl
  · rw [advanceMix_below hm (.inr hs) h, hs]; rfl
  · rw [advanceMix_ends hm (.inl hs) h, hs]; rfl
  · rw [advanceMix_ends hm (.inr hs) h, hs]; rfl
  intro r due ends
  have counting : Counting s := ⟨hr, Loader.unreadable_of_state _ hl⟩
  refine ⟨fun hd he => ?_, fun none => exec_keyMixEnds_idle hr ?_⟩
  · have executed : exec (.keyMixEnds l) s = .next (takeSwitchPoint s) :=
      exec_keyMixEnds_due hr (s.switchPointDue_iff.2 hd) hl (r.mixDue_iff.2 he)
    refine ⟨by rw [executed, exec_switchPoint_here counting hd.1 hd.2], fun mask hq => ⟨_, executed, ?_, ?_⟩⟩
    · rw [(takeSwitchPoint_frame s).1]
      rfl
    · obtain ⟨still, moving, reached⟩ := he
      have mixed : (takeSwitchPoint s).keys.get l = advanceMix r := by
        rw [takeSwitchPoint_keys_of_empty hl hq, advanceAll_get, advanceEngine_get_still (by simpa using mask) (by simpa using still)]
        simp [r]
      rw [mixed, advanceMix_ends still moving reached]
      exact ⟨fun hs => by rw [hs]; rfl, fun hs => by rw [hs]; rfl⟩
  · rintro ⟨hd, -, he⟩
    exact none.elim (· (s.switchPointDue_iff.1 hd)) (· (r.mixDue_iff.1 he))

end Sys2Proof.KeyLayers

namespace Sys2Proof.Transitions

open Sys2Proof Sys2Proof.Machine Sys2Proof.Safety

/-- Settles O18. -/
theorem completionSwapsAndRests : Obligations.CompletionSwapsAndRests := by
  intro s hr due
  let t := deriveSets (resolveSources (complete s))
  have engine : t.engine = (complete s).engine := by simp [t]
  have layer (l : Layer) : t.keys.get l = landLayer (s.keys.get l) := by simp [t]
  have bus (b : Bus) : t.crosspoint.buses.get b =
      { (complete s).crosspoint.buses.get b with
        effective := resolveSource s.crosspoint s.monitor ((complete s).crosspoint.buses.get b).selected } := by
    rw [(deriveSets_frame _).2.2.2.2.2.1, resolveSources_get, (complete_frame s).2.2.2.2.2.2.1, complete_crosspoint]
    rfl
  refine ⟨t, exec_completion hr (s.engine.completionDue_iff.2 due), ?_, fun swaps => ?_, fun b stands => ?_, fun l still => ?_,
    fun l moving rising => ?_, fun l moving falling => ?_, fun b => ?_, ?_, ⟨by simp [t, complete_stack], fun l => ?_⟩, ?_⟩
  · rw [engine, complete_engine]
    exact ⟨rfl, rfl, rfl, rfl, rfl, rfl, rfl, rfl, rfl, rfl⟩
  · have pgm := bus .pgm
    have pst := bus .pst
    rw [complete_crosspoint, if_pos swaps] at pgm pst
    rw [show t.crosspoint.buses.pgm = _ from pgm, show t.crosspoint.buses.pst = _ from pst]
    exact ⟨rfl, rfl, rfl, rfl, rfl, rfl⟩
  · have same : (complete s).crosspoint.buses.get b = s.crosspoint.buses.get b := by
      rw [complete_crosspoint]
      by_cases swaps : s.engine.selection.background = true
      · rw [if_pos swaps]
        exact swapBuses_get_other _ (stands.resolve_left (by simp [swaps]))
      · rw [if_neg swaps]
    rw [bus, same]
    exact ⟨rfl, rfl, rfl⟩
  · rw [layer, landLayer, if_neg (by simp [still])]
  · rw [layer, landLayer_rising moving rising]
    exact ⟨rfl, rfl, rfl, rfl⟩
  · rw [layer, landLayer_falling moving falling]
    exact ⟨rfl, rfl, rfl, rfl⟩
  · rw [bus]
  · rw [engine, complete_direction]
  · rw [layer, landLayer]
    split <;> rfl
  · show t = _
    simp only [t]
    rw [complete_changes s]
    rfl

end Sys2Proof.Transitions
end

section
/-! PROOF. Arrivals: what a frame does once the port delivers it, the lever owner worked out again, and a panel command judged and queued
(R140, R147 to R168). -/

namespace Sys2Proof.Machine

open Sys2Proof.Safety

/-! ## The lever owner worked out again (R154 to R156, R163) -/

/-- Recording an owner changes the owner and, when that is a change, disengages the lever. -/
theorem setOwner_changes (o : Option Station) (s : State) :
    setOwner o s = (s.setIntake { s.intake with leverOwner := o }).setEngine (setOwner o s).engine := by
  unfold setOwner
  split
  · next h => rw [← h]; rfl
  · rfl

theorem setOwner_engine_same {o : Option Station} {s : State} (h : (setOwner o s).intake.leverOwner = s.intake.leverOwner) :
    (setOwner o s).engine = s.engine := by
  rw [setOwner_leverOwner] at h
  rw [setOwner_engine, if_pos h.symm]

theorem setOwner_engine_changed {o : Option Station} {s : State} (h : (setOwner o s).intake.leverOwner ≠ s.intake.leverOwner) :
    (setOwner o s).engine = { s.engine with engaged := false, latest := none } := by
  rw [setOwner_leverOwner] at h
  rw [setOwner_engine, if_neg (Ne.symm h)]
  rfl

/-- Whom working the owner out again records. -/
theorem reviseOwner_eq (s : State) : ∃ o, reviseOwner s = setOwner o s ∧
    (s.loader.state ≠ .running → o = s.intake.leverOwner) ∧
    (s.loader.state = .running → ∀ p, o = some p → s.mayOwn p = true) ∧
    (s.loader.state = .running → s.intake.leverPolicy = .fixed → o = s.lowestOwner) ∧
    (s.loader.state = .running → s.intake.leverPolicy = .latest → o = s.intake.leverOwner.filter fun p => s.mayOwn p) := by
  by_cases hr : s.loader.state = .running
  · cases hp : s.intake.leverPolicy with
    | fixed =>
      exact ⟨s.lowestOwner, reviseOwner_fixed s hr hp, fun h => absurd hr h, fun _ p ho => List.find?_some ho, fun _ _ => rfl,
        fun _ h => by cases h⟩
    | latest =>
      exact ⟨_, reviseOwner_latest s hr hp, fun h => absurd hr h, fun _ p ho => (Option.filter_eq_some_iff.1 ho).2,
        fun _ h => (by cases h), fun _ _ => rfl⟩
  · exact ⟨s.intake.leverOwner, (reviseOwner_outside s hr).trans (by simp [setOwner]), fun _ => rfl, fun h => absurd h hr,
      fun h => absurd h hr, fun h => absurd h hr⟩

theorem lowestOwner_congr {s t : State} (h : t.mayOwn = s.mayOwn) : t.lowestOwner = s.lowestOwner := by
  rw [State.lowestOwner, State.lowestOwner, h]

/-! ## Details of refusals (R162) -/

theorem pickDetail_eq (b : Byte) : pickDetail b = if b.toNat ≤ 9 then b else 0 := by
  have legal : (busOfNat b.toNat).isSome = true ↔ b.toNat ≤ 9 := by
    rw [busOfNat_eq_getElem?, isSome_getElem?]
    simp only [List.length_cons, List.length_nil]
    omega
  simp only [pickDetail, legal]

theorem layerDetail_eq (b : Byte) : layerDetail b = if 1 ≤ b.toNat ∧ b.toNat ≤ 4 then b else 0 := by
  have legal : (layerOfNat b.toNat).isSome = true ↔ 1 ≤ b.toNat ∧ b.toNat ≤ 4 := by
    rw [Option.isSome_iff_ne_none, Ne, layerOfNat_eq_none_iff]
    omega
  simp only [layerDetail, legal]

theorem inputDetail_eq (b : Byte) : inputDetail b = if b.toNat ≤ 11 then b else 0 := by
  have legal : (inputOfNat b.toNat).isSome = true ↔ b.toNat ≤ 11 := by
    rw [Option.isSome_iff_ne_none, Ne, inputOfNat_eq_none_iff]
    omega
  simp only [inputDetail, legal]

/-! ## Arrivals (R139, R140) -/

section
variable {h : Header} {p7 p8 p12 : List Byte} (h7 : 2 ≤ p7.length) (h7' : p7.length ≤ 21) (h8 : 3 ≤ p8.length)
  (h8' : p8.length ≤ 20)
include h7 h7' h8 h8'

theorem exec_arrival_delivered {b0 b1 b2 : Byte} (h12 : p12.length = 29) {c : Instr}
    (hc : c ∈ arrivalsFrom h b0 b1 b2 p7 p8 p12) (s : State) : ∃ f, exec c s = .next (deliver h.sender f s) := by
  have transet : lengthAllowed (kindCode .transet) p7.length = true := by simpa [lengthAllowed, kindCode] using ⟨h7, h7'⟩
  have keyset : lengthAllowed (kindCode .keyset) p8.length = true := by simpa [lengthAllowed, kindCode] using ⟨h8, h8'⟩
  have standing : lengthAllowed (kindCode .standing) p12.length = true := by simpa [lengthAllowed, kindCode] using h12
  simp only [arrivalsFrom, List.mem_cons, List.not_mem_nil, or_false] at hc
  obtain rfl | rfl | rfl | rfl | rfl | rfl | rfl | rfl | rfl | rfl | rfl := hc
  case inr.inr.inr.inr.inr.inr.inl => exact ⟨_, by simp only [exec, execTransetArrival, transet, if_true]; rfl⟩
  case inr.inr.inr.inr.inr.inr.inr.inl => exact ⟨_, by simp only [exec, execKeysetArrival, keyset, if_true]; rfl⟩
  case inr.inr.inr.inr.inr.inr.inr.inr.inr.inl => exact ⟨_, by simp only [exec, execStandingArrival, standing, if_true]; rfl⟩
  all_goals exact ⟨_, rfl⟩

/-- A panel command is received with the action its values stand for and the detail of a refusal (R142, R162). -/
theorem exec_panelCommand {b0 b1 : Byte} {c : Instr} {parsed : Option Action} {kind : FrameKind} {detail : Byte}
    (hc : (c, parsed, kind, detail) ∈ panelCommands h b0 b1 p7 p8) (s : State) :
    exec c s = .next (receiveCommand h.sender h.target kind detail parsed s) := by
  have transet : lengthAllowed (kindCode .transet) p7.length = true := by simpa [lengthAllowed, kindCode] using ⟨h7, h7'⟩
  have keyset : lengthAllowed (kindCode .keyset) p8.length = true := by simpa [lengthAllowed, kindCode] using ⟨h8, h8'⟩
  simp only [panelCommands, List.mem_cons, List.not_mem_nil, or_false, Prod.mk.injEq] at hc
  obtain ⟨rfl, rfl, rfl, rfl⟩ | ⟨rfl, rfl, rfl, rfl⟩ | ⟨rfl, rfl, rfl, rfl⟩ | ⟨rfl, rfl, rfl, rfl⟩ | ⟨rfl, rfl, rfl, rfl⟩ |
    ⟨rfl, rfl, rfl, rfl⟩ | ⟨rfl, rfl, rfl, rfl⟩ | ⟨rfl, rfl, rfl, rfl⟩ := hc
  case inl => rw [← pickDetail_eq]; rfl
  case inr.inr.inr.inl => rw [← layerDetail_eq]; rfl
  case inr.inr.inr.inr.inr.inl => simp only [exec, execTransetArrival, transet, if_true]
  case inr.inr.inr.inr.inr.inr.inl => rw [← layerDetail_eq]; simp only [exec, execKeysetArrival, keyset, if_true]
  case inr.inr.inr.inr.inr.inr.inr => rw [← inputDetail_eq]; rfl
  all_goals rfl

end

/-- The frame kind of a panel command is that of its action. -/
theorem panelCommands_frameKind {h : Header} {b0 b1 : Byte} {p7 p8 : List Byte} {c : Instr} {a : Action} {kind : FrameKind}
    {detail : Byte} (hc : (c, some a, kind, detail) ∈ panelCommands h b0 b1 p7 p8) : a.frameKind = kind := by
  simp only [panelCommands, List.mem_cons, List.not_mem_nil, or_false, Prod.mk.injEq] at hc
  obtain ⟨-, ha, rfl, -⟩ | ⟨-, ha, rfl, -⟩ | ⟨-, ha, rfl, -⟩ | ⟨-, ha, rfl, -⟩ | ⟨-, ha, rfl, -⟩ | ⟨-, ha, rfl, -⟩ |
    ⟨-, ha, rfl, -⟩ | ⟨-, ha, rfl, -⟩ := hc
  case inl => obtain ⟨bus, -, rfl⟩ := Option.map_eq_some_iff.1 ha.symm; rfl
  case inr.inl => obtain rfl := Option.some.inj ha; rfl
  case inr.inr.inl => obtain ⟨mode, -, rfl⟩ := Option.map_eq_some_iff.1 ha.symm; rfl
  case inr.inr.inr.inl =>
    unfold keytakeAction at ha
    split at ha
    · obtain rfl := Option.some.inj ha; rfl
    · cases ha
  case inr.inr.inr.inr.inl => obtain rfl := Option.some.inj ha; rfl
  case inr.inr.inr.inr.inr.inl =>
    simp only [transetAction] at ha
    repeat' split at ha
    all_goals cases ha
    rfl
  case inr.inr.inr.inr.inr.inr.inl =>
    simp only [keysetAction] at ha
    repeat' split at ha
    all_goals cases ha
    rfl
  case inr.inr.inr.inr.inr.inr.inr => obtain ⟨input, -, rfl⟩ := Option.map_eq_some_iff.1 ha.symm; rfl

/-! ## A panel command heard (R140, R148) -/

theorem heardState_eq (s : State) (p : Station) : recordHeard p (s.setPort s.port.arrived) = heardState s p := rfl

theorem receiveCommand_heard {s : State} {sender : Station} (h : Heard s sender) (target : Station) (kind : FrameKind) (detail : Byte)
    (parsed : Option Action) : receiveCommand sender target kind detail parsed s =
      takeCommand sender target kind detail parsed (heardState s sender) := by
  obtain ⟨⟨released, receiving⟩, loaded, other⟩ := h
  rw [receiveCommand, deliver_other _ _ _ released receiving loaded other, heardState_eq]

@[simp] theorem heardState_delegatedHere (s : State) (p q : Station) : (heardState s p).delegatedHere q = s.delegatedHere q := by
  simp [State.delegatedHere, heardState, arrivedState]

/-- A panel command that is heard is judged in the state that its arrival has left. -/
theorem exec_panelCommand_heard {s : State} {h : Header} {b0 b1 : Byte} {p7 p8 : List Byte} {c : Instr} {parsed : Option Action}
    {kind : FrameKind} {detail : Byte} (hs : Heard s h.sender) (h7 : 2 ≤ p7.length) (h7' : p7.length ≤ 21) (h8 : 3 ≤ p8.length)
    (h8' : p8.length ≤ 20) (hc : (c, parsed, kind, detail) ∈ panelCommands h b0 b1 p7 p8) :
    exec c s = .next (takeCommand h.sender h.target kind detail parsed (heardState s h.sender)) := by
  rw [exec_panelCommand h7 h7' h8 h8' hc, receiveCommand_heard hs]

theorem addressed_heard {s : State} {h : Header} (hs : Addressed s h) : Heard s h.sender := by
  obtain ⟨receiving, running, other, -⟩ := hs
  exact ⟨receiving, by simp [running], other⟩

section
variable {s : State} {h : Header} (hs : Addressed s h)
include hs

theorem judge_addressed (parsed : Option Action) : (heardState s h.sender).judge h.sender h.target parsed =
    if ¬ s.delegatedHere h.sender then .refuse .notDelegated
    else match parsed with
      | none => .refuse .badValue
      | some a => if (s.intake.permission h.sender).allows a then .accept a else .refuse .restricted := by
  obtain ⟨-, -, other, here⟩ := hs
  have other' : h.sender ≠ (heardState s h.sender).loader.station := other
  have here' : ¬ h.target ≠ (heardState s h.sender).loader.station := not_not.2 here
  simp only [State.judge, other', here', if_false, heardState_delegatedHere]
  rfl

theorem takeCommand_refused {kind : FrameKind} {detail : Byte} {parsed : Option Action} {reason : Reason}
    (hj : (heardState s h.sender).judge h.sender h.target parsed = .refuse reason) :
    takeCommand h.sender h.target kind detail parsed (heardState s h.sender) =
      refuse h.sender kind reason detail (heardState s h.sender) := by
  have running : ¬ (heardState s h.sender).loader.state ≠ .running := not_not.2 hs.2.1
  simp only [takeCommand, running, if_false, hj]

theorem takeCommand_accepted {kind : FrameKind} {detail : Byte} {a : Action} (hd : s.delegatedHere h.sender = true)
    (hp : (s.intake.permission h.sender).allows a = true) :
    takeCommand h.sender h.target kind detail (some a) (heardState s h.sender) =
      acceptCommand h.sender detail a (heardState s h.sender) := by
  have running : ¬ (heardState s h.sender).loader.state ≠ .running := not_not.2 hs.2.1
  have accepted : (heardState s h.sender).judge h.sender h.target (some a) = .accept a := by
    rw [judge_addressed hs]
    simp [hd, hp]
  simp only [takeCommand, running, if_false, accepted]

end

/-- A command for another station, taken by steps 1 and 2 of R148 alone. -/
theorem takeCommand_elsewhere {s : State} {sender target : Station} {kind : FrameKind} {detail : Byte} {parsed : Option Action}
    (running : s.loader.state = .running) (other : sender ≠ s.loader.station) (elsewhere : target ≠ s.loader.station) :
    takeCommand sender target kind detail parsed (heardState s sender) =
      match (heardState s sender).judgeElsewhere sender target parsed with
      | .discard => heardState s sender
      | .refuse reason => refuse sender kind reason detail (heardState s sender)
      | .accept a => acceptCommand sender detail a (heardState s sender) := by
  have running' : ¬ (heardState s sender).loader.state ≠ .running := not_not.2 running
  have other' : sender ≠ (heardState s sender).loader.station := other
  have elsewhere' : target ≠ (heardState s sender).loader.station := elsewhere
  have judged : (heardState s sender).judge sender target parsed = (heardState s sender).judgeElsewhere sender target parsed := by
    unfold State.judge
    rw [if_neg other', if_pos elsewhere']
  cases verdict : (heardState s sender).judgeElsewhere sender target parsed <;>
    simp only [takeCommand, running', if_false, judged, verdict]

theorem PeerView.delegation_eq_some_iff {v : PeerView} {p q : Station} :
    v.delegation p = some q ↔ ∃ e, v.find p = some e ∧ e.kind = .panel (some q) := by
  cases found : v.find p with
  | none => simp [PeerView.delegation, found]
  | some e =>
    obtain ⟨station, age, kind⟩ := e
    cases kind <;> simp [PeerView.delegation, found]

theorem State.linkTake_iff {s : State} {sender target : Station} :
    s.linkTake sender target = true ↔ s.intake.linkGroup ≠ 0 ∧
      (∃ e m, s.peers.find target = some e ∧ e.kind = .mix m ∧ m.linkGroup = s.intake.linkGroup) ∧
      s.peers.delegation sender = some target ∧ s.intake.permission sender = .full := by
  cases found : s.peers.find target with
  | none => simp [State.linkTake, found]
  | some e =>
    obtain ⟨station, age, kind⟩ := e
    cases kind <;> simp [State.linkTake, found, and_assoc]

/-- The conditions of a link take, the sender's entry refreshed (R150). -/
theorem linkTake_heardState {s : State} {sender target : Station} (distinct : sender ≠ target) :
    (heardState s sender).linkTake sender target = true ↔ s.intake.linkGroup ≠ 0 ∧
      (∃ e m, s.peers.find target = some e ∧ e.kind = .mix m ∧ m.linkGroup = s.intake.linkGroup) ∧
      (∃ e, s.peers.find sender = some e ∧ e.kind = .panel (some target)) ∧ s.intake.permission sender = .full := by
  have found : (heardState s sender).peers.find target = s.peers.find target :=
    PeerView.find_refresh_other _ _ _ distinct.symm
  have delegated : (heardState s sender).peers.delegation sender = s.peers.delegation sender :=
    PeerView.delegation_refresh _ _ _
  rw [State.linkTake_iff, found, delegated, PeerView.delegation_eq_some_iff]
  rfl

/-- A refusal in the state that an arrival has left. -/
theorem refuse_heardState (s : State) (p : Station) (kind : FrameKind) (reason : Reason) (detail : Byte) :
    refuse p kind reason detail (heardState s p) = (heardState s p).setPort
      { s.port with
        lineState := .busy, rx := .ready,
        refusals := if s.port.refusals.length < 4 then
            s.port.refusals ++ [{ target := p, kind := kind, reason := reason, detail := detail, errors := 0 }]
          else s.port.refusals } := by
  by_cases room : s.port.refusals.length < 4
  · simp [refuse, Port.refuse, heardState, arrivedState, Config.refusalCapacity, room]
  · simp [refuse, Port.refuse, heardState, arrivedState, Config.refusalCapacity, room]

theorem acceptCommand_other {a : Action} (h : a.frameKind ≠ .lever) (sender : Station) (detail : Byte) (s : State) :
    acceptCommand sender detail a s = joinQueue sender detail a s := by
  cases a with
  | lever => exact absurd rfl h
  | _ => rfl

/-- A LEVER from the owner joins the queue, whatever the policy. -/
theorem acceptCommand_lever_owner {s : State} {sender : Station} (h : s.intake.leverOwner = some sender) (detail : Byte)
    (position : Nat) : acceptCommand sender detail (.lever position) s = joinQueue sender detail (.lever position) s := by
  cases hp : s.intake.leverPolicy <;> simp [acceptCommand, ownLever, hp, h, setOwner]

theorem acceptCommand_lever_fixed {s : State} {sender : Station} (h : s.intake.leverOwner ≠ some sender)
    (hp : s.intake.leverPolicy = .fixed) (detail : Byte) (position : Nat) :
    acceptCommand sender detail (.lever position) s = s := by
  simp [acceptCommand, ownLever, hp, h]

theorem acceptCommand_lever_latest {s : State} {sender : Station} (hp : s.intake.leverPolicy = .latest) (detail : Byte)
    (position : Nat) (room : takesAction s.intake.queue (.lever position) = true) :
    acceptCommand sender detail (.lever position) s =
      joinQueue sender detail (.lever position) (setOwner (some sender) s) := by
  simp [acceptCommand, ownLever, hp, room]

/-! ## Entries that expire (R156, R167) -/

/-- A station has one entry at most. -/
theorem entry_unique {l : List PeerEntry} (ordered : l.Pairwise fun a b => a.station < b.station) {a b : PeerEntry} (ha : a ∈ l)
    (hb : b ∈ l) (same : a.station = b.station) : a = b := by
  have distinct : (l.map PeerEntry.station).Nodup :=
    List.pairwise_map.2 (ordered.imp fun h => h.ne)
  exact List.inj_on_of_nodup_map distinct ha hb same

/-- The entries left when the entry of a station is removed. -/
def PeerView.without (v : PeerView) (p : Station) : PeerView := { v with entries := v.entries.filter fun e => e.station != p }

theorem expireWhere_station {s : State} {p : Station} (ordered : s.peers.entries.Pairwise fun a b => a.station < b.station)
    (spent : ∃ e ∈ s.peers.entries, e.station = p ∧ 24 ≤ e.age) :
    expireWhere (fun e => e.station == p) s = reviseOwner (s.setPeers (s.peers.without p)) := by
  obtain ⟨e, he, rfl, old⟩ := spent
  have filtered : s.peers.entries.filter (fun d => !(d.spent && d.station == e.station)) =
      s.peers.entries.filter fun d => d.station != e.station := by
    refine List.filter_congr fun d hd => ?_
    by_cases same : d.station = e.station
    · obtain rfl := entry_unique ordered hd he same
      simp [PeerEntry.spent, Config.expiryAge, old]
    · simp [bne_iff_ne.2 same, beq_eq_false_iff_ne.2 same]
  rw [expireWhere, filtered]
  rfl

theorem PeerView.delegation_without (v : PeerView) (p q : Station) :
    (v.without p).delegation q = if q = p then none else v.delegation q := by
  have found : (v.without p).find q = if q = p then none else v.find q := by
    rw [PeerView.find, PeerView.without, List.find?_filter]
    split
    · next same =>
      subst same
      exact List.find?_eq_none.2 (by simp)
    · next other =>
      refine congrArg (fun f => List.find? f v.entries) (funext fun e => ?_)
      by_cases mine : e.station = q
      · simp [mine, other]
      · simp [mine]
  unfold PeerView.delegation
  rw [found]
  by_cases h : q = p
  · rw [if_pos h, if_pos h]
  · rw [if_neg h, if_neg h]

theorem State.mayOwn_without (s : State) (p q : Station) :
    (s.setPeers (s.peers.without p)).mayOwn q = (s.mayOwn q && q != p) := by
  have delegated : (s.setPeers (s.peers.without p)).delegatedHere q = (s.delegatedHere q && q != p) := by
    rw [State.delegatedHere]
    show ((s.peers.without p).delegation q == some s.loader.station) = _
    rw [PeerView.delegation_without]
    by_cases h : q = p <;> simp [h, State.delegatedHere]
  rw [State.mayOwn, delegated, State.mayOwn]
  show ((s.delegatedHere q && q != p) && s.intake.permission q == .full) = _
  ac_rfl

/-- Leaving out one that is not found first finds the same. -/
theorem find?_and_ne {α : Type} [DecidableEq α] {l : List α} {f : α → Bool} {a : α} (h : l.find? f ≠ some a) :
    (l.find? fun b => f b && b != a) = l.find? f := by
  induction l with
  | nil => rfl
  | cons b l ih =>
    cases hf : f b with
    | false => simp_all
    | true => simp_all

/-- When the entry of another station than the owner is removed, the owner stands. -/
theorem reviseOwner_without {s : State} {p : Station} (sound : OwnerSound s) (other : s.intake.leverOwner ≠ some p) :
    reviseOwner (s.setPeers (s.peers.without p)) = s.setPeers (s.peers.without p) := by
  have same : (s.setPeers (s.peers.without p)).intake.leverOwner = s.intake.leverOwner := rfl
  obtain ⟨mayOwn, fixed, outside⟩ := sound
  refine reviseOwner_of_sound ⟨fun q owner => ?_, fun running policy => ?_, outside⟩
  · have distinct : q ≠ p := fun h => other (h ▸ owner)
    rw [State.mayOwn_without, mayOwn q owner]
    simp [distinct]
  · have lowest := fixed running policy
    rw [same, lowest, State.lowestOwner, State.lowestOwner, funext (State.mayOwn_without s p)]
    exact (find?_and_ne (by rwa [lowest] at other)).symm

/-- What working the owner out again does. -/
theorem reviseOwner_changes (s : State) :
    (s.loader.state = .running → s.intake.leverPolicy = .fixed → (reviseOwner s).intake.leverOwner = (reviseOwner s).lowestOwner) ∧
    (s.loader.state = .running → ∀ p, (reviseOwner s).intake.leverOwner = some p → s.mayOwn p = true) ∧
    (s.loader.state ≠ .running → (reviseOwner s).intake = s.intake ∧ (reviseOwner s).engine = s.engine) ∧
    ((reviseOwner s).intake.leverOwner = s.intake.leverOwner → (reviseOwner s).engine = s.engine) ∧
    ((reviseOwner s).intake.leverOwner ≠ s.intake.leverOwner →
      (reviseOwner s).engine = { s.engine with engaged := false, latest := none }) ∧
    reviseOwner s = (s.setIntake { s.intake with leverOwner := (reviseOwner s).intake.leverOwner }).setEngine (reviseOwner s).engine := by
  obtain ⟨o, revised, -, owns, lowest, -⟩ := reviseOwner_eq s
  rw [revised]
  refine ⟨fun running policy => ?_, fun running p owner => ?_, fun outside => ?_, setOwner_engine_same, setOwner_engine_changed, ?_⟩
  · rw [setOwner_leverOwner, lowestOwner_congr (setOwner_mayOwn o s), lowest running policy]
  · rw [setOwner_leverOwner] at owner
    exact owns running p owner
  · rw [← revised, reviseOwner_outside s outside]
    exact ⟨rfl, rfl⟩
  · rw [setOwner_leverOwner]
    exact setOwner_changes o s

/-- What an arrival leaves whose frame gives its sender a new entry (R165, R166). -/
def State.recordEntry (s : State) (e : PeerEntry) : State := reviseOwner ((arrivedState s).setPeers (s.peers.put e))

theorem State.recordEntry_changes (s : State) (e : PeerEntry) :
    (s.recordEntry e).peers.find e.station = some e ∧
    (∀ p, p ≠ e.station → (s.recordEntry e).peers.find p = s.peers.find p) ∧
    (s.recordEntry e).peers = { s.peers with entries := (s.recordEntry e).peers.entries } ∧
    (s.loader.state ≠ .running → (s.recordEntry e).intake = s.intake ∧ (s.recordEntry e).engine = s.engine) ∧
    ((s.recordEntry e).intake.leverOwner = s.intake.leverOwner → (s.recordEntry e).engine = s.engine) ∧
    ((s.recordEntry e).intake.leverOwner ≠ s.intake.leverOwner →
      (s.recordEntry e).engine = { s.engine with engaged := false, latest := none }) ∧
    s.recordEntry e = (((arrivedState s).setPeers (s.recordEntry e).peers).setIntake
        { s.intake with leverOwner := (s.recordEntry e).intake.leverOwner }).setEngine (s.recordEntry e).engine := by
  obtain ⟨-, -, outside, same, changed, record⟩ := reviseOwner_changes ((arrivedState s).setPeers (s.peers.put e))
  have peers : (s.recordEntry e).peers = s.peers.put e := by simp [State.recordEntry]
  refine ⟨?_, fun p hp => ?_, ?_, outside, same, changed, ?_⟩
  · rw [peers]
    exact PeerView.find_put_same _ _
  · rw [peers]
    exact PeerView.find_put_other _ _ _ hp
  · rw [peers]
    rfl
  · rw [peers]
    exact record

theorem State.recordEntry_fixed {s : State} {e : PeerEntry} (running : s.loader.state = .running)
    (policy : s.intake.leverPolicy = .fixed) : (s.recordEntry e).intake.leverOwner = (s.recordEntry e).lowestOwner :=
  (reviseOwner_changes ((arrivedState s).setPeers (s.peers.put e))).1 running policy

/-- A station heard as a mixer does not own the lever. -/
theorem State.recordEntry_mix {s : State} {p : Station} {age : Nat} {m : MixFields} (running : s.loader.state = .running) :
    (s.recordEntry { station := p, age := age, kind := .mix m }).intake.leverOwner ≠ some p := by
  intro owner
  have mayOwn := (reviseOwner_changes ((arrivedState s).setPeers (s.peers.put ⟨p, age, .mix m⟩))).2.1 running p owner
  have delegation : (s.peers.put ⟨p, age, .mix m⟩).delegation p = none := by
    rw [PeerView.delegation, show (s.peers.put ⟨p, age, .mix m⟩).find p = some ⟨p, age, .mix m⟩ from
      PeerView.find_put_same s.peers ⟨p, age, .mix m⟩]
  have unowned : ((arrivedState s).setPeers (s.peers.put ⟨p, age, .mix m⟩)).delegatedHere p = false := by
    rw [State.delegatedHere]
    show ((s.peers.put ⟨p, age, .mix m⟩).delegation p == some s.loader.station) = false
    rw [delegation]
    rfl
  rw [State.mayOwn, unowned] at mayOwn
  cases mayOwn

end Sys2Proof.Machine

namespace Sys2Proof.Arrivals

open Sys2Proof Sys2Proof.Machine Sys2Proof.Safety

/-- Settles O31: the accepted entry joins by `joinQueue_taken`. -/
theorem acceptedCommandsJoinTheQueue : Obligations.AcceptedCommandsJoinTheQueue := by
  intro s h b0 b1 p7 p8 a c kind detail hs h7 h7' h8 h8' hc notLever delegated allowed room
  have kindOf := panelCommands_frameKind hc
  have takes : takesAction s.intake.queue a = true := (takesAction_iff _ _).2 room
  rw [exec_panelCommand_heard (addressed_heard hs) h7 h7' h8 h8' hc, takeCommand_accepted hs delegated allowed,
    acceptCommand_other (kindOf ▸ notLever), joinQueue_taken _ _ _ (heardState s h.sender) takes, ← withoutKey_eq]
  rfl

/-- Settles O32: one case per relation of sender, owner and policy. -/
theorem leverFramesFollowThePolicy : Obligations.LeverFramesFollowThePolicy := by
  intro s h b0 b1 hs delegated full room queue
  have allowed : (s.intake.permission h.sender).allows (.lever (min 1024 (b0.toNat * 256 + b1.toNat))) = true := by
    rw [full]
    rfl
  have takes : takesAction s.intake.queue (.lever (min 1024 (b0.toNat * 256 + b1.toNat))) = true := by
    refine (takesAction_iff _ _).2 (room.imp_left fun ⟨e, he, key⟩ => ⟨e, he, by simp [key], key⟩)
  have parsed : leverAction b0 b1 = some (.lever (min 1024 (b0.toNat * 256 + b1.toNat))) := by
    rw [leverAction, clampPosition, Nat.min_comm]
    rfl
  have executed : exec (.leverArrival h b0 b1) s = .next (acceptCommand h.sender 0
      (.lever (min 1024 (b0.toNat * 256 + b1.toNat))) (heardState s h.sender)) := by
    show Host.Outcome.next (receiveCommand h.sender h.target .lever 0 (leverAction b0 b1) s) = _
    rw [receiveCommand_heard (addressed_heard hs), parsed, takeCommand_accepted hs delegated allowed]
  rw [executed]
  refine ⟨fun owner => ?_, fun other fixed => ?_, fun other latest => ?_⟩
  · rw [acceptCommand_lever_owner (s := heardState s h.sender) owner, joinQueue_taken _ _ _ (heardState s h.sender) takes]
    rfl
  · rw [acceptCommand_lever_fixed (s := heardState s h.sender) other fixed]
  · have owned : setOwner (some h.sender) (heardState s h.sender) =
        ((heardState s h.sender).setIntake { s.intake with leverOwner := some h.sender }).setEngine
          { s.engine with engaged := false, latest := none } :=
      if_neg other
    rw [acceptCommand_lever_latest (s := heardState s h.sender) latest 0 _ takes, owned,
      joinQueue_taken _ _ _ (((heardState s h.sender).setIntake { s.intake with leverOwner := some h.sender }).setEngine _) takes]
    rfl

/-- Settles O33: the judgement of R148 read off for an addressed command. -/
theorem refusalsAtArrivalComeInOrder : Obligations.RefusalsAtArrivalComeInOrder := by
  refine ⟨fun s h b0 b1 p7 p8 c parsed kind detail hs h7 h7' h8 h8' hc => ?_, fun a => ⟨rfl, rfl, ?_⟩⟩
  · intro refused
    have refuses {reason : Reason} (hj : (heardState s h.sender).judge h.sender h.target parsed = .refuse reason) :
        refused reason := by
      simp only [refused]
      rw [exec_panelCommand_heard (addressed_heard hs) h7 h7' h8 h8' hc, takeCommand_refused hs hj, refuse_heardState]
    refine ⟨fun other => refuses ?_, fun here bad => refuses ?_, fun a here good barred => refuses ?_⟩
    · rw [judge_addressed hs, if_pos (by simp [other])]
    · subst bad
      rw [judge_addressed hs, if_neg (by simp [here])]
    · subst good
      rw [judge_addressed hs]
      simp [here, barred]
  · cases a <;> simp [Permission.allows]

/-- Settles O34: `takesAction` fails when no entry has the key and no room is left. -/
theorem fullQueueRefuses : Obligations.FullQueueRefuses := by
  intro s h b0 b1 p7 p8 a c kind detail hs h7 h7' h8 h8' hc lever delegated allowed full none
  have kindOf := panelCommands_frameKind hc
  have refuses : takesAction s.intake.queue a = false := by
    rw [Bool.eq_false_iff, Ne, takesAction_iff]
    rintro (⟨e, he, key, same⟩ | room)
    · exact (none e he).elim key (· same)
    · omega
  have joins : acceptCommand h.sender detail a (heardState s h.sender) = joinQueue h.sender detail a (heardState s h.sender) := by
    by_cases hl : kind = .lever
    · cases a with
      | lever position => exact acceptCommand_lever_owner (s := heardState s h.sender) (lever hl).2 detail position
      | _ => rfl
    · exact acceptCommand_other (kindOf ▸ hl) _ _ _
  rw [exec_panelCommand_heard (addressed_heard hs) h7 h7' h8 h8' hc, takeCommand_accepted hs delegated allowed, joins,
    joinQueue_full _ _ _ (heardState s h.sender) refuses, kindOf, refuse_heardState]

/-- Settles O35: the judgement of a command for another station. -/
theorem linkTakesAreFollowed : Obligations.LinkTakesAreFollowed := by
  intro s h b0 b1 p7 p8 receiving running other elsewhere distinct h7 h7' h8 h8' linked
  have heard : Heard s h.sender := ⟨receiving, by simp [running], other⟩
  have take_iff : (heardState s h.sender).linkTake h.sender h.target = true ↔ linked :=
    linkTake_heardState distinct
  have executed : exec (.takeArrival h b0) s =
      .next (takeCommand h.sender h.target .take 0 ((takeModeOf b0.toNat).map .take) (heardState s h.sender)) := by
    show Host.Outcome.next (receiveCommand h.sender h.target .take 0 (takeAction b0) s) = _
    rw [receiveCommand_heard heard]
    rfl
  refine ⟨fun m mode conditions room => ?_, fun fails => ?_, fun c parsed kind detail hc notTake => ?_⟩
  · have takes : takesAction s.intake.queue (.take m) = true := (takesAction_iff _ _).2 (.inr room)
    rw [executed, mode, Option.map_some, takeCommand_elsewhere running other elsewhere, State.judgeElsewhere,
      if_pos (take_iff.2 conditions)]
    show Host.Outcome.next (joinQueue h.sender 0 (.take m) (heardState s h.sender)) = _
    rw [joinQueue_taken _ _ _ (heardState s h.sender) takes]
    rfl
  · rw [executed, takeCommand_elsewhere running other elsewhere]
    cases mode : takeModeOf b0.toNat with
    | none => rfl
    | some m =>
      have known : ¬ 1 < b0.toNat := fun above => by
        rw [takeModeOf_eq, if_neg (by omega)] at mode
        cases mode
      have unlinked : ¬ (heardState s h.sender).linkTake h.sender h.target = true :=
        fun take => fails.elim (· (take_iff.1 take)) known
      simp only [Option.map_some, State.judgeElsewhere, unlinked]
      rfl
  · rw [exec_panelCommand_heard heard h7 h7' h8 h8' hc, takeCommand_elsewhere running other elsewhere]
    cases parsed with
    | none => rfl
    | some a =>
      have kindOf := panelCommands_frameKind hc
      cases a with
      | take => exact absurd kindOf.symm notTake
      | _ => rfl

/-- Settles O28: each frame puts one entry, and the owner is worked out again. -/
theorem heardFramesAreRecorded : Obligations.HeardFramesAreRecorded := by
  refine ⟨fun s h b0 heard _ => ?_, fun s h payload heard length _ => ?_, fun s h b0 b1 b2 heard _ => ?_⟩
  · obtain ⟨⟨released, receiving⟩, loaded, other⟩ := heard
    have executed : exec (.delegateArrival h b0) s =
        .next (s.recordEntry { station := h.sender, age := 0, kind := .panel (delegationOf b0) }) := by
      show Host.Outcome.next (deliver h.sender (recordDelegate h.sender (delegationOf b0)) s) = _
      rw [deliver_other _ _ _ released receiving loaded other]
      rfl
    obtain ⟨found, others, entries, outside, same, changed, record⟩ :=
      s.recordEntry_changes { station := h.sender, age := 0, kind := .panel (delegationOf b0) }
    refine ⟨_, executed, ⟨delegationOf b0, found, fun clear => ?_, fun set => ?_⟩, others, entries, State.recordEntry_fixed, outside,
      same, changed, record⟩
    · rw [delegationOf, clear]
      rfl
    · exact ⟨_, by rw [delegationOf, if_pos set], rfl⟩
  · obtain ⟨⟨released, receiving⟩, loaded, other⟩ := heard
    have allowed : lengthAllowed (kindCode .standing) payload.length = true := by simpa [lengthAllowed, kindCode] using length
    have executed : exec (.standingArrival h payload) s =
        .next (s.recordEntry { station := h.sender, age := 0, kind := .mix (mixFieldsOf payload) }) := by
      simp only [exec, execStandingArrival, allowed, if_true, deliver_other _ _ _ released receiving loaded other]
      rfl
    obtain ⟨found, others, entries, outside, same, changed, record⟩ :=
      s.recordEntry_changes { station := h.sender, age := 0, kind := .mix (mixFieldsOf payload) }
    exact ⟨_, executed, found, others, entries, State.recordEntry_mix, outside, same, changed, record⟩
  · obtain ⟨⟨released, receiving⟩, loaded, other⟩ := heard
    have executed : exec (.refusalArrival h b0 b1 b2) s = .next (heardState s h.sender) := by
      show Host.Outcome.next (deliver h.sender (recordHeard h.sender) s) = _
      rw [deliver_other _ _ _ released receiving loaded other]
      rfl
    have refreshed := PeerView.find_refresh s.peers h.sender
    refine ⟨_, executed, fun e found => ?_, fun absent => ?_, fun p hp => PeerView.find_refresh_other _ _ _ hp, ?_⟩
    · rw [found] at refreshed
      have station : e.station = h.sender := by simpa using List.find?_some found
      exact refreshed.trans (by rw [← station])
    · rw [absent] at refreshed
      exact refreshed
    · have entries : s.peers.refresh h.sender = { s.peers with entries := (s.peers.refresh h.sender).entries } := by
        unfold PeerView.refresh
        split <;> rfl
      exact congrArg (arrivedState s).setPeers entries

/-- Settles O29: the delivery of a frame with this station's number, in LOADING, and outside RUNNING. -/
theorem duplicateAndOutsideArrivalsQueueNothing : Obligations.DuplicateAndOutsideArrivalsQueueNothing := by
  refine ⟨fun s h b0 b1 b2 p7 p8 p12 ⟨released, receiving⟩ h7 h7' h8 h8' h12 c hc => ?_,
    fun s h b0 b1 p7 p8 heard outside h7 h7' h8 h8' c parsed kind detail hc => ?_⟩
  · obtain ⟨f, executed⟩ := exec_arrival_delivered h7 h7' h8 h8' h12 hc s
    have own (mine : h.sender = s.loader.station) (loaded : s.loader.state ≠ .loading) :
        exec c s = .next (hearDuplicate (arrivedState s)) := by
      rw [executed, mine, deliver_own _ _ released receiving loaded]
      rfl
    refine ⟨fun mine listening => ?_, fun mine running => ?_, fun mine barred => ?_, fun loading => ?_⟩
    · rw [own mine (by simp [listening]), hearDuplicate]
      simp [arrivedState, listening]
    · rw [own mine (by simp [running]), hearDuplicate]
      simp [arrivedState, running]
    · rw [own mine (by simp [barred]), hearDuplicate]
      simp [arrivedState, barred]
    · rw [executed, deliver_loading _ _ _ released receiving loading]
      rfl
  · have outside' : (heardState s h.sender).loader.state ≠ .running := outside
    rw [exec_panelCommand_heard heard h7 h7' h8 h8' hc, takeCommand, if_pos outside']

end Sys2Proof.Arrivals

namespace Sys2Proof.ThePeerView

open Sys2Proof Sys2Proof.Machine Sys2Proof.Safety

/-- Settles O23: removing an entry removes its station from those that may own the lever, and no other. -/
theorem peerCountsActAtTheirLimits : Obligations.PeerCountsActAtTheirLimits := by
  have expiry {s : State} {p : Station} (released : Released s)
      (ordered : s.peers.entries.Pairwise fun a b => a.station < b.station)
      (spent : ∃ e ∈ s.peers.entries, e.station = p ∧ 24 ≤ e.age) :
      exec (.peerExpiry p) s = .next (reviseOwner (s.setPeers (s.peers.without p))) := by
    rw [exec_released released (f := fun s => expireWhere (fun e => e.station == p) s) rfl, expireWhere_station ordered spent]
  refine ⟨fun s p ⟨released, running⟩ sound ordered spent => ?_, fun s p released outside ordered spent => ?_,
    fun s released => ⟨fun reached => ?_, fun below => ?_⟩, fun s ⟨released, running⟩ => ⟨fun reached => ?_, fun below => ?_⟩⟩
  · obtain ⟨-, owns, -, -, changed, record⟩ := reviseOwner_changes (s.setPeers (s.peers.without p))
    have peers : (reviseOwner (s.setPeers (s.peers.without p))).peers = s.peers.without p := by simp
    have gone : (reviseOwner (s.setPeers (s.peers.without p))).intake.leverOwner ≠ some p := by
      intro owner
      have mayOwn := owns running p owner
      simp [State.mayOwn_without] at mayOwn
    refine ⟨_, expiry released ordered spent, peers, gone, by simp, fun other => ?_, fun owner => ?_, ?_⟩
    · rw [reviseOwner_without sound other]
      exact ⟨rfl, rfl⟩
    · exact changed (fun same => gone (same.trans owner))
    · rw [peers]
      exact record
  · rw [expiry released ordered spent, reviseOwner_outside (s.setPeers (s.peers.without p)) outside]
    rfl
  · have passed : Config.quietLimit ≤ s.peers.quiet := reached
    rw [exec_released released (f := fun s => if Config.quietLimit ≤ s.peers.quiet then
      s.setPeers { s.peers with duplicate := false } else s) rfl, if_pos passed]
  · have short : ¬ Config.quietLimit ≤ s.peers.quiet := not_le.2 below
    rw [exec_released released (f := fun s => if Config.quietLimit ≤ s.peers.quiet then
      s.setPeers { s.peers with duplicate := false } else s) rfl, if_neg short]
  · have repeats : repeatStanding s = pendStanding s := if_pos reached
    refine ⟨pendStanding s, ?_, rfl, rfl, fun ⟨a, attempt, standing⟩ => ?_, fun none => ?_, rfl, rfl⟩
    · rw [exec_released released (f := fun s => if s.loader.state = .running then repeatStanding s else s) rfl, if_pos running, repeats]
    · simp [pendStanding, Port.pendStanding, Port.sendingStanding, attempt, standing]
    · have idle : s.port.sendingStanding = false := by
        unfold Port.sendingStanding
        split
        · next a attempt => simpa using none a attempt
        · rfl
      simp [pendStanding, Port.pendStanding, idle]
  · have waits : repeatStanding s = s := if_neg (not_le.2 below)
    rw [exec_released released (f := fun s => if s.loader.state = .running then repeatStanding s else s) rfl, if_pos running, waits]

end Sys2Proof.ThePeerView
end

section
/-! PROOF. Start-up, the rest: the content of an accepted configuration block read field by field (R183), and the end of LISTENING
(R163, R180, R181). -/

namespace Sys2Proof.Machine

open Sys2Proof.Safety

/-! ## Clamps and pairs (R183) -/

theorem clampNat_eq {lo hi : Nat} (h : lo ≤ hi) (n : Nat) : clampNat n lo hi = max lo (min hi n) := by
  unfold clampNat
  split
  · omega
  · split <;> omega

/-- A sample clamped to a pair of limits is a sample. -/
theorem sampleOf_clampNat {lo hi : Nat} (h : lo ≤ hi ∧ hi ≤ 1019) (n : Nat) :
    (sampleOf (clampNat (sampleOf n).toNat lo hi)).toNat = max lo (min hi (n % 1024)) := by
  obtain ⟨ordered, top⟩ := h
  have small : max lo (min hi (n % 1024)) < 1024 := by omega
  simp only [sampleOf, BitVec.toNat_ofNat, clampNat_eq ordered]
  exact Nat.mod_eq_of_lt small

/-! ## The settings inside the block (R145, R183) -/

theorem getD_drop_take {α : Type} (l : List α) (k n : Nat) (d : α) {j : Nat} (h : j < n) :
    ((l.drop k).take n).getD j d = l.getD (k + j) d := by
  simp [List.getD_eq_getElem?_getD, h]

/-- The initial transition settings fill every field of a TRANSET. -/
theorem readTranset_whole {body : List Byte} (h : body.length = 19) :
    let at8 := fun i => (body.getD i 0).toNat
    let at16 := fun i => at8 i * 256 + at8 (i + 1)
    readTranset 2047 body =
      { type := some (at8 0), rate := some (at16 1), pattern := some (at8 3), mode := some (at8 4), cx := some (at16 5),
        cy := some (at16 7), softness := some (at16 9), borderWidth := some (at16 11), borderY := some (at16 13),
        borderCb := some (at16 15), borderCr := some (at16 17) } :=
  readTranset_eq_transetValues (mask := 2047) (h.trans (by decide))

/-- The initial key settings fill every field of a KEYSET but the stack position. -/
theorem readKeyset_whole {body : List Byte} (h : body.length = 16) :
    let at8 := fun i => (body.getD i 0).toNat
    let at16 := fun i => at8 i * 256 + at8 (i + 1)
    readKeyset 1023 body =
      { type := some (at8 0), clip := some (at16 1), gain := some (at8 3), invert := some (at8 4), rate := some (at16 5),
        maskMode := some (at8 7), left := some (at16 8), top := some (at16 10), width := some (at16 12), height := some (at16 14),
        stackPosition := none } :=
  readKeyset_eq_keysetValues (mask := 1023) (h.trans (by decide))

theorem transTypeOf_getD (n : Nat) : (transTypeOf n).getD .mix = if n = 1 then .wipe else .mix := by
  rw [transTypeOf_eq]
  split <;> split <;> simp <;> omega

theorem patternOf_getD (n : Nat) : (patternOf n).getD .horizontal =
    if n = 1 then .vertical else if n = 2 then .box else if n = 3 then .diamond else .horizontal := by
  rw [patternOf_eq]
  match n with
  | 0 | 1 | 2 | 3 => rfl
  | n + 4 => simp

theorem directionModeOf_getD (n : Nat) : (directionModeOf n).getD .normal =
    if n = 1 then .reverse else if n = 2 then .alternate else .normal := by
  rw [directionModeOf_eq]
  match n with
  | 0 | 1 | 2 => rfl
  | n + 3 => simp

theorem keyTypeOf_getD (n : Nat) : (keyTypeOf n).getD .luma = if n = 1 then .linear else .luma := by
  rw [keyTypeOf_eq]
  match n with
  | 0 | 1 => rfl
  | n + 2 => simp

theorem maskModeOf_getD (n : Nat) : (maskModeOf n).getD .none = if n = 1 then .inside else if n = 2 then .outside else .none := by
  rw [maskModeOf_eq]
  match n with
  | 0 | 1 | 2 => rfl
  | n + 3 => simp

/-! ## The fields of the block (R183) -/

section
variable (station : Station) {content : List Byte}

theorem readConfiguration_format (content : List Byte) :
    let n := (content.getD 0 0).toNat
    let f := (readConfiguration station content).format
    (n = 0 ∨ 3 < n → f = .A) ∧ (n = 1 → f = .B) ∧ (n = 2 → f = .C) ∧ (n = 3 → f = .D) := by
  intro n f
  have read : f = (readConfiguration station content).format := rfl
  simp only [readConfiguration] at read
  refine ⟨fun h => ?_, fun h => ?_, fun h => ?_, fun h => ?_⟩
  · split at read <;> omega
  all_goals
    rw [show (content.getD 0 0).toNat = _ from h] at read
    exact read

theorem readConfiguration_programme_val (content : List Byte) :
    (readConfiguration station content).programme.val =
      if 2 ≤ (content.getD 193 0).toNat ∧ (content.getD 193 0).toNat ≤ 63 then (content.getD 193 0).toNat else 48 + station.val := by
  simp only [readConfiguration]
  generalize (content.getD 193 0).toNat = n
  cases read : sourceOfNat n with
  | none =>
    have above : 64 ≤ n := by simpa [sourceOfNat] using read
    rw [if_neg (by omega)]
    rfl
  | some p =>
    obtain rfl := sourceOfNat_eq_some_iff.1 read
    have small := p.isLt
    by_cases two : 2 ≤ p.val
    · rw [if_pos ⟨two, by omega⟩]
      simp [two]
    · rw [if_neg (by omega)]
      simp [two, defaultProgramme]

theorem readConfiguration_linkGroup (content : List Byte) :
    (readConfiguration station content).linkGroup.val = if (content.getD 194 0).toNat ≤ 3 then (content.getD 194 0).toNat else 0 := by
  simp only [readConfiguration]
  by_cases small : (content.getD 194 0).toNat < 4
  · rw [dif_pos small, if_pos (by omega)]
  · rw [dif_neg small, if_neg (by omega)]
    rfl

theorem readConfiguration_permission (content : List Byte) (p : Station) :
    (readConfiguration station content).permissions.getD p.val .watch =
      if (content.getD (196 + p.val) 0).toNat = 0 then .full
      else if (content.getD (196 + p.val) 0).toNat = 1 then .limited else .watch := by
  have place : (List.range 16)[p.val]? = some p.val := List.getElem?_range p.isLt
  simp only [readConfiguration, List.getD_eq_getElem?_getD, List.getElem?_map, place, Option.map_some, Option.getD_some]
  split <;> simp_all

theorem readConfiguration_divider (content : List Byte) {i : Nat} (h : i < 12) :
    (readConfiguration station content).dividers.getD i 0 = min 3 (content.getD (214 + i) 0).toNat := by
  have place : (List.range 12)[i]? = some i := List.getElem?_range h
  simp only [readConfiguration, List.getD_eq_getElem?_getD, List.getElem?_map, place, Option.map_some, Option.getD_some]
  exact Nat.min_comm _ _

theorem readConfiguration_matte (content : List Byte) :
    let c := readConfiguration station content
    let at16 := fun i => (content.getD i 0).toNat * 256 + (content.getD (i + 1) 0).toNat
    c.matte.y.toNat = max c.limits.yLo (min c.limits.yHi (at16 234 % 1024)) ∧
    c.matte.cb.toNat = max c.limits.cLo (min c.limits.cHi (at16 236 % 1024)) ∧
    c.matte.cr.toNat = max c.limits.cLo (min c.limits.cHi (at16 238 % 1024)) :=
  ⟨sampleOf_clampNat (limitPair_range (by decide)) _, sampleOf_clampNat (limitPair_range (by decide)) _,
    sampleOf_clampNat (limitPair_range (by decide)) _⟩

/-- The key settings that stand in the content from a place on. -/
def keySettingsAt (content : List Byte) (i : Nat) : KeySettings :=
  let at8 := fun i => (content.getD i 0).toNat
  let at16 := fun i => at8 i * 256 + at8 (i + 1)
  { type := if at8 i = 1 then .linear else .luma, clip := min 876 (at16 (i + 1)), gain := max 1 (at8 (i + 3)),
    invert := (content.getD (i + 4) 0).getLsbD 0, rate := max 1 (min 999 (at16 (i + 5))),
    maskMode := if at8 (i + 7) = 1 then .inside else if at8 (i + 7) = 2 then .outside else .none,
    left := min 4095 (at16 (i + 8)), top := min 4095 (at16 (i + 10)), width := min 4095 (at16 (i + 12)),
    height := min 4095 (at16 (i + 14)) }

/-- The transition settings that stand in the content from a place on. -/
def transSettingsAt (content : List Byte) (i : Nat) : TransSettings :=
  let at8 := fun i => (content.getD i 0).toNat
  let at16 := fun i => at8 i * 256 + at8 (i + 1)
  { type := if at8 i = 1 then .wipe else .mix, rate := max 1 (min 999 (at16 (i + 1))),
    pattern := if at8 (i + 3) = 1 then .vertical else if at8 (i + 3) = 2 then .box else if at8 (i + 3) = 3 then .diamond else .horizontal,
    mode := if at8 (i + 4) = 1 then .reverse else if at8 (i + 4) = 2 then .alternate else .normal,
    cx := min 1023 (at16 (i + 5)), cy := min 1023 (at16 (i + 7)), softness := min 255 (at16 (i + 9)),
    borderWidth := min 255 (at16 (i + 11)),
    border := { y := BitVec.ofNat 10 (at16 (i + 13)), cb := BitVec.ofNat 10 (at16 (i + 15)), cr := BitVec.ofNat 10 (at16 (i + 17)) } }

theorem applyKeyset_block {i : Nat} (h : i + 16 ≤ content.length) :
    applyKeyset (clampKeyset (readKeyset 1023 ((content.drop i).take 16))) .reset = keySettingsAt content i := by
  have body : ((content.drop i).take 16).length = 16 := by
    rw [List.length_take, List.length_drop]
    omega
  rw [readKeyset_whole body]
  simp (disch := decide) only [getD_drop_take, applyKeyset, clampKeyset, Option.bind_some, Option.map_some, Option.getD_some,
    KeySettings.reset, keyTypeOf_getD, maskModeOf_getD, clampClip_eq, clampGain_eq, clampRate_eq, clampWindow_eq]
  rfl

theorem applyTranset_block {i : Nat} (h : i + 19 ≤ content.length) :
    applyTranset (clampTranset (readTranset 2047 ((content.drop i).take 19))) .reset = transSettingsAt content i := by
  have body : ((content.drop i).take 19).length = 19 := by
    rw [List.length_take, List.length_drop]
    omega
  rw [readTranset_whole body]
  simp (disch := decide) only [getD_drop_take, applyTranset, clampTranset, Option.bind_some, Option.map_some, Option.getD_some,
    TransSettings.reset, transTypeOf_getD, patternOf_getD, directionModeOf_getD, clampCentre_eq, clampRate_eq, clampWidth_eq]
  rfl

end

/-- Configured, an input has the divider of its number. -/
theorem Monitor.configure_get_leakDivider {m : Monitor} (h : m.inputs.length = 12) (c : Configuration) (i : InputNo) :
    ((m.configure c).get i).leakDivider = c.dividers.getD i.val 0 := by
  have hi : i.val < m.inputs.length := by omega
  simp [Monitor.configure, Monitor.get, List.getD_eq_getElem?_getD, hi]

/-! ## The end of LISTENING (R163, R181) -/

theorem enterRunning_port (s : State) : (enterRunning s).port = s.port.pendStanding := by
  simp [enterRunning]

/-- Entering RUNNING, the lowest-numbered panel that may own the lever owns it under FIXED, and an absent owner stays absent under
LATEST. -/
theorem enterRunning_leverOwner (s : State) :
    (s.intake.leverPolicy = .fixed → (enterRunning s).intake.leverOwner = s.lowestOwner) ∧
    (s.intake.leverPolicy = .latest → s.intake.leverOwner = none → (enterRunning s).intake.leverOwner = none) := by
  let u := pendStanding (s.setLoader { s.loader with state := .running })
  have running : u.loader.state = .running := rfl
  have mayOwn : u.mayOwn = s.mayOwn := rfl
  refine ⟨fun fixed => ?_, fun latest absent => ?_⟩
  · rw [enterRunning, reviseOwner_fixed u running fixed, setOwner_leverOwner, lowestOwner_congr mayOwn]
  · have none : u.intake.leverOwner = none := absent
    rw [enterRunning, reviseOwner_latest u running latest, setOwner_leverOwner, none]
    rfl

theorem enterRunning_engine_state (s : State) : (enterRunning s).engine.state = s.engine.state := by
  rcases reviseOwner_engine (pendStanding (s.setLoader { s.loader with state := .running })) with same | ⟨disengaged, -⟩
  · rw [enterRunning, same]
    rfl
  · rw [enterRunning, disengaged]
    rfl

theorem countListening_port (s : State) : (countListening s).port =
    if 8 ≤ s.loader.listeningCount + 1 then s.port.pendStanding else s.port := by
  by_cases h : 8 ≤ s.loader.listeningCount + 1 <;> simp [countListening, Config.listeningPeriod, enterRunning_port, h]

/-- What a switch point in LISTENING leaves of the loader, the port and the repeat count. -/
theorem takeSwitchPoint_listening {s : State} (h : s.loader.state = .listening) :
    (takeSwitchPoint s).loader =
      { s.loader with
        listeningCount := s.loader.listeningCount + 1,
        state := if 8 ≤ s.loader.listeningCount + 1 then .running else .listening } ∧
    (takeSwitchPoint s).port.standingPending = (decide (8 ≤ s.loader.listeningCount + 1) || s.port.standingPending) ∧
    (8 ≤ s.loader.listeningCount + 1 → (takeSwitchPoint s).peers.repeatCount = 0) := by
  let u := expireWhere (fun _ => true) (advanceAll (openField s))
  have loader : u.loader = s.loader := by simp [u]
  have port : u.port = s.port.newBudget (s.raster.field + 1) := by simp [u]
  have worked : takeSwitchPoint s = noteAnnounced (deriveField (countListening u)) := by
    simp [takeSwitchPoint, workField, h, u]
  rw [worked]
  refine ⟨?_, ?_, fun reached => ?_⟩
  · simp [countListening_loader, loader, h]
  · by_cases reached : 8 ≤ s.loader.listeningCount + 1 <;>
      simp [countListening_port, loader, port, reached, Port.pendStanding, Port.newBudget]
  · simp [countListening_peers, loader, reached]

end Sys2Proof.Machine

namespace Sys2Proof.StartUp

open Sys2Proof Sys2Proof.Machine Sys2Proof.Safety

/-- Settles O6: the configuration read from the content, field by field, and what putting a configuration in force does. -/
theorem acceptedBlockIsInForce : Obligations.AcceptedBlockIsInForce := by
  intro s s0 s1 content released loading flash length sum at8 at16 raw keysAt
  let c := readConfiguration s.loader.station content
  have executed := execEndOfLoading_accepted released loading flash (checkBlock_accepted length sum)
  have raster : (applyConfiguration c false s).raster =
      { s.raster.restart c with startedLines := (applyConfiguration c false s).raster.startedLines } := applyConfiguration_raster c false s
  have monitor : (applyConfiguration c false s).monitor = s.monitor.configure c := applyConfiguration_monitor c false s
  have crosspoint : (applyConfiguration c false s).crosspoint = s.crosspoint.configure c := applyConfiguration_crosspoint c false s
  have intake : (applyConfiguration c false s).intake = s.intake.configure c := by simp
  have engine : (applyConfiguration c false s).engine = s.engine.configure c := applyConfiguration_engine c false s
  have keys : (applyConfiguration c false s).keys = s.keys.configure c := applyConfiguration_keys c false s
  obtain ⟨limits, matte⟩ := applyConfiguration_picture c false s
  have transition : c.transition = transSettingsAt content 240 := applyTranset_block (by omega)
  obtain ⟨formatA, formatB, formatC, formatD⟩ := readConfiguration_format s.loader.station content
  obtain ⟨matteY, matteCb, matteCr⟩ := readConfiguration_matte s.loader.station content
  refine ⟨applyConfiguration c false s, executed, applyConfiguration_kept _ _ _, by simp [Loader.finish],
    by rw [raster]; exact ⟨rfl, rfl, rfl, rfl, rfl⟩, ?_⟩
  rw [raster, monitor, crosspoint, intake, engine, keys, limits, matte]
  refine ⟨formatA, formatB, formatC, formatD, clampNat_eq (by decide) _, clampNat_eq (by decide) _, clampNat_eq (by decide) _,
    Nat.min_comm _ _, Nat.min_comm _ _, ⟨c.programme, rfl, readConfiguration_programme_val s.loader.station content, fun n hn => ?_⟩,
    readConfiguration_linkGroup s.loader.station content, rfl, readConfiguration_permission s.loader.station content,
    Nat.max_comm _ _, rfl, fun inputs i => ?_, rfl, rfl, matteY, matteCb, matteCr, transition, rfl, ?_⟩
  · rw [Crosspoint.entry_of_map (m := validateMap c.programme raw) rfl hn, List.getD_eq_getElem?_getD]
    cases (validateMap c.programme raw)[n.val - 2]? <;> rfl
  · rw [Monitor.configure_get_leakDivider inputs]
    exact readConfiguration_divider s.loader.station content i.isLt
  · exact ⟨applyKeyset_block (i := 259) (by omega), applyKeyset_block (i := 275) (by omega), applyKeyset_block (i := 291) (by omega),
      applyKeyset_block (i := 307) (by omega)⟩

/-- Settles O8: the effect of entering RUNNING, and the count at a switch point in LISTENING. -/
theorem listeningEndsAtTheEighthSwitchPoint : Obligations.ListeningEndsAtTheEighthSwitchPoint := by
  refine ⟨fun s released listening => ⟨fun reached => ?_, fun early => ?_⟩, fun s released flag listening => ?_⟩
  · have enters : s.loader.state = .listening ∧ Config.listeningPeriod ≤ s.loader.listeningCount := ⟨listening, reached⟩
    obtain ⟨fixed, latest⟩ := enterRunning_leverOwner s
    refine ⟨noteAnnounced (deriveField (enterRunning s)), ?_, by simp, ?_, by simp, fun policy => ?_, fun policy absent => ?_, by simp,
      by simp, by simp, by simp, by simp, ?_⟩
    · rw [exec_released released (f := fun s => if s.loader.state = .listening ∧ Config.listeningPeriod ≤ s.loader.listeningCount
        then noteAnnounced (deriveField (enterRunning s)) else s) rfl, if_pos enters]
    · simp [enterRunning_port, Port.pendStanding]
    · simpa using fixed policy
    · simpa using latest policy absent
    · simpa using enterRunning_engine_state s
  · have waits : ¬ (s.loader.state = .listening ∧ Config.listeningPeriod ≤ s.loader.listeningCount) :=
      fun both => absurd both.2 (not_le.2 early)
    rw [exec_released released (f := fun s => if s.loader.state = .listening ∧ Config.listeningPeriod ≤ s.loader.listeningCount
      then noteAnnounced (deriveField (enterRunning s)) else s) rfl, if_neg waits]
  · have counting : Counting s := ⟨released, by simp [Loader.unreadable, listening]⟩
    let u := moveCounters (s.raster.runTo s.raster.switchLines) s
    have loaderKept : u.loader = s.loader := by simp [u]
    have portKept : u.port = s.port := by simp [u]
    obtain ⟨loader, pending, repeats⟩ := takeSwitchPoint_listening (s := u) (by rw [loaderKept]; exact listening)
    rw [loaderKept] at loader repeats pending
    rw [portKept] at pending
    refine ⟨takeSwitchPoint u, exec_switchPoint_set counting flag, by rw [loader], fun reached => ?_, fun early => ?_⟩
    · have eighth : 8 ≤ s.loader.listeningCount + 1 := by omega
      exact ⟨by rw [loader, if_pos eighth], by rw [pending, decide_eq_true eighth, Bool.true_or], repeats eighth⟩
    · have before : ¬ 8 ≤ s.loader.listeningCount + 1 := by omega
      exact ⟨by rw [loader, if_neg before], by rw [pending, decide_eq_false before, Bool.false_or]⟩

end Sys2Proof.StartUp
end

section
/-! PROOF. Closures: what following programme numbers to the sets of their stations reaches (R90, R171, R172, R174), and what is read
from it: the loop check of a SELECT, the cycle test and the tally. -/

namespace Sys2Proof.Machine

open Sys2Proof.Safety

/-! ## Members of a set (R13, R14) -/

@[simp] theorem setHas_or (x y : SourceSet) (n : Source) : setHas (x ||| y) n = (setHas x n || setHas y n) := BitVec.getLsbD_or

@[simp] theorem setHas_empty (n : Source) : setHas 0#64 n = false := by simp [setHas]

theorem setHas_setSingle (m n : Source) : setHas (setSingle m) n = true ↔ n = m := by
  have inside := n.isLt
  have single : setHas (setSingle m) n = decide (n.val = m.val) := by
    by_cases h : n.val = m.val
    · simp [setHas, setSingle, h]
    · by_cases below : n.val < m.val
      · simp [setHas, setSingle, below, h]
      · have above : n.val - m.val ≠ 0 := by omega
        simp [setHas, setSingle, h, above]
  rw [single, decide_eq_true_iff, Fin.val_inj]

theorem setHas_setUnions (xs : List SourceSet) (n : Source) : setHas (setUnions xs) n = true ↔ ∃ x ∈ xs, setHas x n = true := by
  induction xs with
  | nil => simp [setUnions]
  | cons x xs ih =>
    have cons : setUnions (x :: xs) = x ||| setUnions xs := rfl
    simp [cons, ih]

/-- Sets with the same members are one. -/
theorem setHas_ext {x y : SourceSet} (h : ∀ n, setHas x n = setHas y n) : x = y :=
  BitVec.eq_of_getLsbD_eq fun i hi => h ⟨i, hi⟩

/-! ## Closures -/

theorem setHas_closureStep {nodes : List (Source × SourceSet)} {x : SourceSet} {n : Source} :
    setHas (closureStep nodes x) n = true ↔ setHas x n = true ∨ ∃ p y, (p, y) ∈ nodes ∧ setHas x p = true ∧ setHas y n = true := by
  simp only [closureStep, setHas_or, Bool.or_eq_true, setHas_setUnions, List.mem_map]
  refine or_congr_right ⟨?_, fun ⟨p, y, mem, hp, hy⟩ => ⟨y, ⟨(p, y), mem, by simp [hp]⟩, hy⟩⟩
  rintro ⟨z, ⟨⟨p, y⟩, mem, rfl⟩, hz⟩
  cases hp : setHas x p with
  | false => simp [hp] at hz
  | true => exact ⟨p, y, mem, hp, by simpa [hp] using hz⟩

/-- The nodes whose programme number a set holds. -/
def joinedNodes (nodes : List (Source × SourceSet)) (x : SourceSet) : List (Source × SourceSet) :=
  nodes.filter fun node => setHas x node.1

theorem joinedNodes_sublist (nodes : List (Source × SourceSet)) (x : SourceSet) :
    (joinedNodes nodes x).Sublist (joinedNodes nodes (closureStep nodes x)) :=
  List.monotone_filter_right nodes fun _ h => setHas_closureStep.2 (.inl h)

/-- A round that no node joins is the last that adds anything. -/
theorem closureStep_fixed {nodes : List (Source × SourceSet)} {x : SourceSet}
    (h : joinedNodes nodes (closureStep nodes x) = joinedNodes nodes x) :
    closureStep nodes (closureStep nodes x) = closureStep nodes x := by
  refine setHas_ext fun n => Bool.eq_iff_iff.2 ⟨fun reached => ?_, fun reached => setHas_closureStep.2 (.inl reached)⟩
  rcases setHas_closureStep.1 reached with before | ⟨p, y, mem, hp, hy⟩
  · exact before
  · have joined : (p, y) ∈ joinedNodes nodes x := h ▸ List.mem_filter.2 ⟨mem, hp⟩
    exact setHas_closureStep.2 (.inr ⟨p, y, mem, (List.mem_filter.1 joined).2, hy⟩)

/-- After a number of rounds nothing more is reached, or more nodes than that have joined. -/
theorem closureStep_iterate (nodes : List (Source × SourceSet)) (x : SourceSet) (k : Nat) :
    closureStep nodes ((closureStep nodes)^[k] x) = (closureStep nodes)^[k] x ∨
      k < (joinedNodes nodes ((closureStep nodes)^[k] x)).length := by
  induction k with
  | zero =>
    by_cases none : joinedNodes nodes x = []
    · refine .inl (setHas_ext fun n => Bool.eq_iff_iff.2 ⟨fun reached => ?_, fun reached => setHas_closureStep.2 (.inl reached)⟩)
      rcases setHas_closureStep.1 reached with before | ⟨p, y, mem, hp, -⟩
      · exact before
      · have joined : (p, y) ∈ joinedNodes nodes x := List.mem_filter.2 ⟨mem, hp⟩
        rw [none] at joined
        cases joined
    · exact .inr (List.length_pos_of_ne_nil none)
  | succ k ih =>
    rw [Function.iterate_succ_apply']
    rcases ih with fixed | grown
    · exact .inl (by rw [fixed, fixed])
    · by_cases same : joinedNodes nodes (closureStep nodes ((closureStep nodes)^[k] x)) = joinedNodes nodes ((closureStep nodes)^[k] x)
      · exact .inl (closureStep_fixed same)
      · have sublist := joinedNodes_sublist nodes ((closureStep nodes)^[k] x)
        have more := lt_of_le_of_ne sublist.length_le fun h => same (sublist.eq_of_length h).symm
        exact .inr (by omega)

theorem closure_eq_iterate (nodes : List (Source × SourceSet)) (x : SourceSet) :
    closure nodes x = (closureStep nodes)^[nodes.length] x :=
  List.foldl_const (closureStep nodes) x nodes

/-- As many rounds as there are nodes reach everything. -/
theorem closureStep_closure (nodes : List (Source × SourceSet)) (x : SourceSet) :
    closureStep nodes (closure nodes x) = closure nodes x := by
  rw [closure_eq_iterate]
  refine (closureStep_iterate nodes x nodes.length).resolve_right (Nat.not_lt.2 ?_)
  exact List.length_filter_le _ _

theorem subset_closure {nodes : List (Source × SourceSet)} {x : SourceSet} {n : Source} (h : setHas x n = true) :
    setHas (closure nodes x) n = true := by
  rw [closure_eq_iterate]
  induction nodes.length with
  | zero => exact h
  | succ k ih =>
    rw [Function.iterate_succ_apply']
    exact setHas_closureStep.2 (.inl ih)

/-- A closure holds what is reached through its nodes (R90, R171, R172, R174). -/
theorem setHas_closure {nodes : List (Source × SourceSet)} {stations : Source → SourceSet → Prop}
    (h : ∀ p y, (p, y) ∈ nodes ↔ stations p y) {x : SourceSet} {n : Source} :
    setHas (closure nodes x) n = true ↔ Reaches stations x n := by
  constructor
  · rw [closure_eq_iterate]
    generalize nodes.length = k
    induction k generalizing n with
    | zero => exact .member
    | succ k ih =>
      rw [Function.iterate_succ_apply']
      intro reached
      rcases setHas_closureStep.1 reached with before | ⟨p, y, mem, hp, hy⟩
      · exact ih before
      · exact .through (ih hp) ((h p y).1 mem) hy
  · intro reached
    induction reached with
    | member hn => exact subset_closure hn
    | through _ shows hn ih =>
      rw [← closureStep_closure]
      exact setHas_closureStep.2 (.inr ⟨_, _, (h _ _).2 shows, ih, hn⟩)

/-- What is reached from several sets together is reached from one of them. -/
theorem reaches_setUnions {stations : Source → SourceSet → Prop} {xs : List SourceSet} {n : Source} :
    Reaches stations (setUnions xs) n ↔ ∃ x ∈ xs, Reaches stations x n := by
  constructor
  · intro reached
    induction reached with
    | member hn =>
      obtain ⟨x, hx, hn⟩ := (setHas_setUnions _ _).1 hn
      exact ⟨x, hx, .member hn⟩
    | through _ shows hn ih =>
      obtain ⟨x, hx, before⟩ := ih
      exact ⟨x, hx, .through before shows hn⟩
  · rintro ⟨x, hx, reached⟩
    induction reached with
    | member hn => exact .member ((setHas_setUnions _ _).2 ⟨x, hx, hn⟩)
    | through _ shows hn ih => exact .through ih shows hn

/-- What is reached from a set is in it, or reached from the sets of the stations whose programme numbers are in it. -/
theorem reaches_iff_first {stations : Source → SourceSet → Prop} {x y : SourceSet}
    (first : ∀ n, setHas y n = true ↔ ∃ p z, stations p z ∧ setHas x p = true ∧ setHas z n = true) {n : Source} :
    Reaches stations x n ↔ setHas x n = true ∨ Reaches stations y n := by
  constructor
  · intro reached
    induction reached with
    | member hn => exact .inl hn
    | through _ shows hn ih =>
      rcases ih with hp | before
      · exact .inr (.member ((first _).2 ⟨_, _, shows, hp, hn⟩))
      · exact .inr (.through before shows hn)
  · rintro (hn | reached)
    · exact .member hn
    · induction reached with
      | member hn =>
        obtain ⟨p, z, shows, hp, hz⟩ := (first _).1 hn
        exact .through (.member hp) shows hz
      | through _ shows hn ih => exact .through ih shows hn

/-! ## The live MIX peers (R164) -/

theorem PeerView.mem_mixPeers {v : PeerView} {p : Station} {m : MixFields} :
    (p, m) ∈ v.mixPeers ↔ ∃ e ∈ v.entries, e.station = p ∧ e.kind = .mix m := by
  simp only [PeerView.mixPeers, List.mem_filterMap]
  refine exists_congr fun e => and_congr_right fun _ => ?_
  obtain ⟨station, age, kind⟩ := e
  cases kind <;> simp

/-- The loop check through the peers (R90). -/
theorem closesLoop_iff {s : State} {own n : Source} : closesLoop s.peers own n = true ↔
    ∃ e m, e ∈ s.peers.entries ∧ e.kind = .mix m ∧ m.programme = n ∧ Reaches (PeerShows s) (m.contribution ||| m.next) own := by
  have nodes (p : Source) (y : SourceSet) :
      (p, y) ∈ (s.peers.mixPeers.map fun (_, m) => (m.programme, m.both)) ↔ PeerShows s p y := by
    simp only [List.mem_map, Prod.exists, PeerView.mem_mixPeers, Prod.mk.injEq, PeerShows, MixFields.both]
    constructor
    · rintro ⟨q, m, ⟨e, he, -, kind⟩, rfl, rfl⟩
      exact ⟨e, m, he, kind, rfl, rfl⟩
    · rintro ⟨e, m, he, kind, rfl, rfl⟩
      exact ⟨e.station, m, ⟨e, he, rfl, kind⟩, rfl, rfl⟩
  simp only [closesLoop, List.any_eq_true, Prod.exists, PeerView.mem_mixPeers, Bool.and_eq_true, beq_iff_eq, setHas_closure nodes]
  constructor
  · rintro ⟨q, m, ⟨e, he, -, kind⟩, number, reached⟩
    exact ⟨e, m, he, kind, number, reached⟩
  · rintro ⟨e, m, he, kind, number, reached⟩
    exact ⟨e.station, m, ⟨e, he, rfl, kind⟩, number, reached⟩

/-! ## The cycle test (R174) -/

theorem mem_reducedNodes (s : State) (p : Source) (y : SourceSet) : (p, y) ∈ reducedNodes s ↔ LowerShows s p y := by
  simp only [reducedNodes, List.mem_map, List.mem_filter, Prod.exists, PeerView.mem_mixPeers, decide_eq_true_eq, Prod.mk.injEq,
    LowerShows, MixFields.both]
  constructor
  · rintro ⟨q, m, ⟨⟨e, he, rfl, kind⟩, lower⟩, rfl, rfl⟩
    exact ⟨e, m, he, kind, lower, rfl, rfl⟩
  · rintro ⟨e, m, he, kind, lower, rfl, rfl⟩
    exact ⟨e.station, m, ⟨⟨e, he, rfl, kind⟩, lower⟩, rfl, rfl⟩

section
variable {s : State} {own : Source} (hp : s.crosspoint.programme = some own)
include hp

theorem cycleNumbers_eq_none_iff :
    cycleNumbers s = none ↔ ¬ Reaches (LowerShows s) (s.sets.contribution ||| s.sets.next) own := by
  simp only [cycleNumbers, hp, ← setHas_closure (mem_reducedNodes s)]
  by_cases reached : setHas (closure (reducedNodes s) (s.sets.contribution ||| s.sets.next)) own = true <;> simp [reached]

theorem mem_cycleNumbers {named : List Source} (h : cycleNumbers s = some named) (n : Source) :
    n ∈ named ↔ n = own ∨ (Reaches (LowerShows s) (s.sets.contribution ||| s.sets.next) n ∧
      ∃ x, LowerShows s n x ∧ Reaches (LowerShows s) x own) := by
  simp only [cycleNumbers, hp] at h
  split at h
  · obtain rfl := Option.some.inj h
    simp only [List.mem_cons, List.mem_map, List.mem_filter, Prod.exists, Bool.and_eq_true, setHas_closure (mem_reducedNodes s),
      mem_reducedNodes]
    refine or_congr_right ⟨?_, fun ⟨reached, x, shows, back⟩ => ⟨n, x, ⟨shows, reached, back⟩, rfl⟩⟩
    rintro ⟨p, x, ⟨shows, reached, back⟩, rfl⟩
    exact ⟨reached, x, shows, back⟩
  · cases h

end

/-! ## SELECT (R88 to R91) -/

theorem offerSelect_refused {s : State} {sender : Station} {bus : Bus} {n : Source} {reason : Reason}
    (h : selectRefusal s n = some reason) : offerSelect sender bus n s = .refused reason (busNumber bus) := by
  rw [offerSelect, h]

theorem offerSelect_accepted {s : State} {sender : Station} {bus : Bus} {n : Source} (h : selectRefusal s n = none) :
    offerSelect sender bus n s = .applied (s.setCrosspoint { s.crosspoint with
      buses := s.crosspoint.buses.set bus ((s.crosspoint.buses.get bus).accept n sender) }) := by
  rw [offerSelect, h]

theorem selectRefusal_own {s : State} {n own : Source} (shown : s.crosspoint.canShow n = true)
    (hp : s.crosspoint.programme = some own) (other : n ≠ own) :
    selectRefusal s n = if closesLoop s.peers own n then some .loop else none := by
  have distinct : ¬ own = n := Ne.symm other
  simp [selectRefusal, shown, hp, distinct]

/-! ## The tally (R169 to R173) -/

theorem mem_tallyNodes {s : State} {r : TallyNode} : r ∈ tallyNodes s ↔ TallyStation s r := by
  simp only [tallyNodes, List.mem_cons, List.mem_map, Prod.exists, PeerView.mem_mixPeers, TallyStation]
  refine or_congr_right ⟨?_, fun ⟨e, m, he, kind, eq⟩ => ⟨e.station, m, ⟨e, he, rfl, kind⟩, eq.symm⟩⟩
  rintro ⟨q, m, ⟨e, he, -, kind⟩, rfl⟩
  exact ⟨e, m, he, kind, rfl⟩

theorem mem_contributionNodes (s : State) (p : Source) (y : SourceSet) :
    (p, y) ∈ contributionNodes (tallyNodes s) ↔ Shows s p y := by
  simp only [contributionNodes, List.mem_filterMap, Option.map_eq_some_iff, Prod.mk.injEq, mem_tallyNodes, Shows]
  constructor
  · rintro ⟨r, station, q, number, rfl, rfl⟩
    exact ⟨r, station, number, rfl⟩
  · rintro ⟨r, station, number, rfl⟩
    exact ⟨r, station, p, number, rfl, rfl⟩

/-- What is reached from the sets of the FINAL stations together is reached from that of one of them. -/
theorem reaches_roots {s : State} {f : TallyNode → SourceSet} {n : Source} :
    Reaches (Shows s) (setUnions (((tallyNodes s).filter (·.final)).map f)) n ↔
      ∃ r, TallyStation s r ∧ r.final = true ∧ Reaches (Shows s) (f r) n := by
  simp [reaches_setUnions, mem_tallyNodes, and_assoc]

theorem setHas_onAirSet {s : State} {n : Source} : setHas (onAirSet (tallyNodes s)) n = true ↔
    ∃ r, TallyStation s r ∧ r.final = true ∧ Reaches (Shows s) r.contribution n := by
  rw [onAirSet, setHas_closure (mem_contributionNodes s), reaches_roots]

theorem setHas_previewSet {s : State} {n : Source} : setHas (previewSet (tallyNodes s)) n = true ↔
    setHas (onAirSet (tallyNodes s)) n = false ∧ ∃ r, TallyStation s r ∧ r.final = true ∧ Reaches (Shows s) r.next n := by
  have first (n : Source) :
      setHas (setUnions ((contributionNodes (tallyNodes s)).map fun (p, y) => if setHas (rootNexts (tallyNodes s)) p then y else 0#64)) n
        = true ↔ ∃ p z, Shows s p z ∧ setHas (rootNexts (tallyNodes s)) p = true ∧ setHas z n = true := by
    simp only [setHas_setUnions, List.mem_map, Prod.exists, mem_contributionNodes]
    constructor
    · rintro ⟨x, ⟨p, y, shows, rfl⟩, hx⟩
      cases hp : setHas (rootNexts (tallyNodes s)) p with
      | false => simp [hp] at hx
      | true => exact ⟨p, y, shows, hp, by simpa [hp] using hx⟩
    · rintro ⟨p, z, shows, hp, hz⟩
      exact ⟨z, ⟨p, z, shows, by simp [hp]⟩, hz⟩
  have reached : setHas (rootNexts (tallyNodes s) ||| previewContributions (tallyNodes s)) n = true ↔
      ∃ r, TallyStation s r ∧ r.final = true ∧ Reaches (Shows s) r.next n := by
    rw [setHas_or, Bool.or_eq_true, previewContributions, setHas_closure (mem_contributionNodes s), ← reaches_iff_first first,
      rootNexts, reaches_roots]
  have without : setHas (previewSet (tallyNodes s)) n = (setHas (rootNexts (tallyNodes s) ||| previewContributions (tallyNodes s)) n &&
      !setHas (onAirSet (tallyNodes s)) n) := by
    simp [previewSet, setHas]
  rw [without, Bool.and_eq_true, reached, Bool.not_eq_true', and_comm]

theorem noFinal_eq_false_iff {s : State} : (tallyOf s).noFinal = false ↔ ∃ r, TallyStation s r ∧ r.final = true := by
  simp [tallyOf, mem_tallyNodes]

theorem Crosspoint.entryNaming_sound {c : Crosspoint} {i : InputNo} {n : Source} {e : MapEntry} (h : c.entryNaming i = some (n, e)) :
    c.entry n = some e ∧ e.input = i := by
  obtain ⟨⟨entry, k⟩, mem, found⟩ := List.exists_of_findSome?_eq_some h
  cases entry with
  | none => cases found
  | some m =>
    by_cases named : m.input = i
    · simp only [named, if_true, Option.map_eq_some_iff, Prod.mk.injEq] at found
      obtain ⟨n', number, rfl, rfl⟩ := found
      have value := sourceOfNat_eq_some_iff.1 number
      have place : c.map[k]? = some (some m) := List.mem_zipIdx_iff_getElem?.1 mem
      refine ⟨?_, named⟩
      rw [Crosspoint.entry_of_map rfl (by omega), List.getD_eq_getElem?_getD, show n'.val - 2 = k by omega, place]
      rfl
    · simp [named] at found

theorem Crosspoint.entryNaming_complete {c : Crosspoint} {n : Source} {e : MapEntry} (h : c.entry n = some e) :
    c.entryNaming e.input ≠ none := by
  intro none
  have above := Crosspoint.entry_above h
  have two : 2 ≤ n.val := by
    obtain ⟨h0, h1⟩ := above
    rw [Ne, ← Fin.val_inj] at h0 h1
    have := Fin.val_ofNat 64 0
    omega
  rw [Crosspoint.entry_of_map rfl two, List.getD_eq_getElem?_getD, Option.getD_eq_iff] at h
  have place : c.map[n.val - 2]? = some (some e) := by simpa using h
  have number : sourceOfNat (n.val - 2 + 2) = some n := sourceOfNat_eq_some_iff.2 (by omega)
  have passed := List.findSome?_eq_none_iff.1 none (some e, n.val - 2) (List.mem_zipIdx_iff_getElem?.2 place)
  simp [number] at passed

/-- An input that one source at most names is named by that source's entry. -/
theorem Crosspoint.entryNaming_eq_some {c : Crosspoint} {n : Source} {e : MapEntry} (h : c.entry n = some e)
    (unique : ∀ n' e', c.entry n' = some e' → e'.input = e.input → n' = n) : c.entryNaming e.input = some (n, e) := by
  cases found : c.entryNaming e.input with
  | none => exact absurd found (entryNaming_complete h)
  | some pair =>
    obtain ⟨entry, same⟩ := entryNaming_sound found
    have number := unique pair.1 pair.2 entry same
    rw [number, h] at entry
    exact congrArg some (Prod.ext number (Option.some.inj entry).symm)

theorem Crosspoint.entryNaming_eq_none {c : Crosspoint} {i : InputNo} (h : ∀ n e, c.entry n = some e → e.input ≠ i) :
    c.entryNaming i = none := by
  cases found : c.entryNaming i with
  | none => rfl
  | some pair =>
    obtain ⟨entry, same⟩ := entryNaming_sound found
    exact absurd same (h pair.1 pair.2 entry)

theorem tallyOf_line (s : State) (i : InputNo) : (tallyOf s).lines[i.val]? =
    some (tallyLine s.loader.state s.crosspoint (tallyOf s).onAir (tallyOf s).preview i) := by
  simp [tallyOf]

/-- The tally sees of a state the station's FINAL flag and state, its programme number and map, its sets and the live MIX entries. -/
theorem tallyOf_congr {s t : State} (hl : t.loader = s.loader) (hp : t.crosspoint.programme = s.crosspoint.programme)
    (hm : t.crosspoint.map = s.crosspoint.map) (hs : t.sets = s.sets) (he : t.peers.entries = s.peers.entries) :
    tallyOf t = tallyOf s := by
  have nodes : tallyNodes t = tallyNodes s := by simp only [tallyNodes, PeerView.mixPeers, hl, hp, hs, he]
  have naming (i : InputNo) : t.crosspoint.entryNaming i = s.crosspoint.entryNaming i := by simp only [Crosspoint.entryNaming, hm]
  have lines : tallyLine t.loader.state t.crosspoint = tallyLine s.loader.state s.crosspoint := by
    funext onAir preview i
    rw [tallyLine, tallyLine, naming, hl]
  simp only [tallyOf, nodes, lines]

/-- A field's tally is that of the state the switch point leaves. -/
theorem takeSwitchPoint_tally {s : State} (h : s.loader.state ≠ .loading) :
    (takeSwitchPoint s).tally = tallyOf (takeSwitchPoint s) := by
  have derived {t u : State} (ht : t.tally = (deriveField u).tally) (hl : t.loader = u.loader)
      (hc : t.crosspoint = (deriveField u).crosspoint) (hs : t.sets = (deriveField u).sets) (he : t.peers.entries = u.peers.entries) :
      t.tally = tallyOf t := by
    rw [ht, deriveField_tally]
    refine (tallyOf_congr ?_ ?_ ?_ hs ?_).symm
    · simp [hl]
    · rw [hc, deriveField_crosspoint]
    · rw [hc, deriveField_crosspoint]
    · simp [he]
  refine takeSwitchPoint_keeps (inv := fun t => t.tally = tallyOf t) (mid := fun _ => True) trivial (fun _ _ => trivial)
    (fun loading => absurd loading h) ?_ ?_ ?_
  · exact fun u _ _ _ => derived (u := expireWhere (fun _ => true) u) (by simp) (by simp) (by simp) (by simp) (by simp [announceField_peers])
  · exact fun u _ _ _ => derived (u := countListening (expireWhere (fun _ => true) u)) (by simp) (by simp) (by simp) (by simp) (by simp)
  · exact fun u _ _ _ => derived (u := expireWhere (fun _ => true) u) (by simp) (by simp) (by simp) (by simp) (by simp)

/-- No work of a field changes what sources the station has, nor its straps. -/
theorem takeSwitchPoint_map (s : State) : (takeSwitchPoint s).crosspoint.map = s.crosspoint.map ∧
    (takeSwitchPoint s).loader.final = s.loader.final := by
  refine takeSwitchPoint_keeps
    (inv := fun t => t.crosspoint.map = s.crosspoint.map ∧ t.loader.final = s.loader.final)
    (mid := fun t => t.crosspoint.map = s.crosspoint.map ∧ t.loader.final = s.loader.final)
    (by simp) (fun a hu => ⟨a.map.trans hu.1, by rw [a.loader, hu.2]⟩) (fun _ => by simp) ?_ ?_ ?_
  all_goals
    intro u _ _ hu
    simpa [deriveField_crosspoint, countListening_loader] using hu

end Sys2Proof.Machine

namespace Sys2Proof.SourcesAndCrosspoints

open Sys2Proof Sys2Proof.Machine Sys2Proof.Safety

/-- Settles O42: the first check that fails refuses, and the loop check is a closure over the live MIX peers. -/
theorem selectIsCheckedThenApplied : Obligations.SelectIsCheckedThenApplied := by
  intro s sender bus n own programme
  refine ⟨fun missing => ?_, fun shown mine => ?_, fun shown other loop => ?_, fun shown other free => ?_⟩
  · exact offerSelect_refused (by simp [selectRefusal, missing])
  · subst mine
    exact offerSelect_refused (by simp [selectRefusal, shown, programme])
  · exact offerSelect_refused (by rw [selectRefusal_own shown programme other, if_pos (closesLoop_iff.2 loop)])
  · have passes : selectRefusal s n = none := by
      rw [selectRefusal_own shown programme other, if_neg]
      exact fun closes => let ⟨e, m, he, kind, number, reached⟩ := closesLoop_iff.1 closes; free e m he kind number reached
    refine ⟨_, offerSelect_accepted passes, rfl, fun b hb => Buses.get_set_other _ _ _ _ hb, ?_⟩
    simp only [State.setCrosspoint_crosspoint, Buses.get_set_same, BusRecord.accept]
    by_cases same : n = (s.crosspoint.buses.get bus).selected
    · simp [same]
    · simp [same, Ne.symm same]

end Sys2Proof.SourcesAndCrosspoints

namespace Sys2Proof.ThePeerView

open Sys2Proof Sys2Proof.Machine Sys2Proof.Safety

/-- Settles O39: the closures of the tally, and the tally of a switch point is that of the state it leaves. -/
theorem tallyLinesFollowTheSets : Obligations.TallyLinesFollowTheSets := by
  intro s released loaded flag unique
  have counting : Counting s := ⟨released, by simp [Loader.unreadable, loaded]⟩
  let u := moveCounters (s.raster.runTo s.raster.switchLines) s
  let t := takeSwitchPoint u
  have loaderKept : u.loader = s.loader := by simp [u]
  have tally : t.tally = tallyOf t := takeSwitchPoint_tally (by rwa [loaderKept])
  have entry (n : Source) : t.crosspoint.entry n = s.crosspoint.entry n := by
    have map : t.crosspoint.map = u.crosspoint.map := (takeSwitchPoint_map u).1
    have kept : u.crosspoint = s.crosspoint := by simp [u]
    rw [Crosspoint.entry, map, kept]
    rfl
  have final : t.loader.final = s.loader.final := (takeSwitchPoint_map u).2.trans (by rw [loaderKept])
  refine ⟨t, exec_switchPoint_set counting flag, fun running => ⟨fun n e he => ?_, fun i unnamed => ?_⟩, fun outside => ?_, fun n => ?_,
    fun n => ?_, ?_, fun notFinal peers => ?_⟩
  · have naming : t.crosspoint.entryNaming e.input = some (n, e) :=
      Crosspoint.entryNaming_eq_some ((entry n).trans he) fun n' e' h same => unique _ _ _ _ ((entry n').symm.trans h) he same
    rw [tally, tallyOf_line, tallyLine, if_neg (not_not.2 running), naming]
  · have naming : t.crosspoint.entryNaming i = none :=
      Crosspoint.entryNaming_eq_none fun n e he => unnamed n e ((entry n).symm.trans he)
    rw [tally, tallyOf_line, tallyLine, if_neg (not_not.2 running), naming]
  · rw [tally]
    exact List.eq_replicate_iff.2 ⟨tallyOf_lines_length t, tallyOf_lines_dark outside⟩
  · rw [tally]
    exact setHas_onAirSet
  · rw [tally]
    exact setHas_previewSet
  · rw [tally]
    exact noFinal_eq_false_iff
  · have noStation : ¬ ∃ r, TallyStation t r ∧ r.final = true := by
      rintro ⟨r, rfl | ⟨e, m, he, kind, rfl⟩, hr⟩
      · simp [final, notFinal] at hr
      · simp [peers e he m kind] at hr
    have empty {x : SourceSet} (h : ∀ n, setHas x n ≠ true) : x = 0#64 := setHas_ext fun n => by simpa using h n
    rw [tally]
    refine ⟨empty fun n has => ?_, empty fun n has => ?_, ?_⟩
    · obtain ⟨r, station, hr, -⟩ := setHas_onAirSet.1 has
      exact noStation ⟨r, station, hr⟩
    · obtain ⟨-, r, station, hr, -⟩ := setHas_previewSet.1 has
      exact noStation ⟨r, station, hr⟩
    · exact Bool.of_not_eq_false (mt noFinal_eq_false_iff.1 noStation)

end Sys2Proof.ThePeerView
end

section
/-! PROOF. Sources, the rest: the table of the effective source (R93) and what the two source sets hold (R13, R14). -/

namespace Sys2Proof.Machine

open Sys2Proof.Safety

/-! ## The effective source (R93) -/

/-- A source that shows: BLACK, MATTE, or one mapped to an input that is not FAILED. -/
def Crosspoint.Stands (c : Crosspoint) (m : Monitor) (n : Source) : Prop :=
  n.val < 2 ∨ ∃ e, c.entry n = some e ∧ (m.get e.input).health ≠ .failed

section
variable {c : Crosspoint} {m : Monitor} {n : Source}

theorem Crosspoint.stands_iff : c.Stands m n ↔ n.val < 2 ∨ (c.canShow n = true ∧ sourceFailed c m n = false) := by
  refine or_congr_right' fun low => ?_
  cases he : c.entry n <;> simp [Crosspoint.canShow, sourceFailed, he, low]

/-- A source that shows resolves to itself. -/
theorem resolveSource_stands (h : c.Stands m n) : resolveSource c m n = n := by
  rcases h with low | ⟨e, he, ok⟩
  · exact if_pos low
  · simp [resolveSource, he, ok]

theorem resolveSource_unmapped (h : ¬ n.val < 2) (he : c.entry n = none) : resolveSource c m n = 0 := by
  simp only [resolveSource, h, he, if_false]

section
variable {e : MapEntry} (h : ¬ n.val < 2) (he : c.entry n = some e) (failed : (m.get e.input).health = .failed)
include h he failed

theorem resolveSource_noBackup (none : e.backup = none) : resolveSource c m n = 0 := by
  simp [resolveSource, h, he, failed, none]

/-- One whose input is FAILED resolves to its backup when that shows, and to BLACK otherwise. -/
theorem resolveSource_backup {b : Source} (backup : e.backup = some b) : (c.Stands m b → resolveSource c m n = b) ∧
    (¬ c.Stands m b → resolveSource c m n = 0) := by
  rw [Crosspoint.stands_iff]
  by_cases low : b.val < 2
  · simp only [resolveSource, h, he, failed, backup, low]
    simp
  · by_cases shows : c.canShow b = true ∧ sourceFailed c m b = false
    · simp [resolveSource, h, he, failed, backup, low, shows]
    · simp [resolveSource, h, he, failed, backup, low, shows]

end

/-- What a source resolves to shows, and is BLACK, the source or its backup. -/
theorem resolveSource_spec (c : Crosspoint) (m : Monitor) (n : Source) : c.Stands m (resolveSource c m n) ∧
    (resolveSource c m n = 0 ∨ resolveSource c m n = n ∨
      ∃ e b, c.entry n = some e ∧ e.backup = some b ∧ resolveSource c m n = b) := by
  have black {r : Source} (hr : r = 0) : c.Stands m r := by
    subst hr
    exact .inl (by decide)
  by_cases stands : c.Stands m n
  · have itself := resolveSource_stands stands
    exact ⟨by rwa [itself], .inr (.inl itself)⟩
  · have above : ¬ n.val < 2 := fun low => stands (.inl low)
    cases he : c.entry n with
    | none =>
      have resolved := resolveSource_unmapped (m := m) above he
      exact ⟨black resolved, .inl resolved⟩
    | some e =>
      have failed : (m.get e.input).health = .failed := not_not.1 fun ok => stands (.inr ⟨e, he, ok⟩)
      cases backup : e.backup with
      | none =>
        have resolved := resolveSource_noBackup above he failed backup
        exact ⟨black resolved, .inl resolved⟩
      | some b =>
        obtain ⟨taken, left⟩ := resolveSource_backup above he failed backup
        by_cases shows : c.Stands m b
        · exact ⟨by rwa [taken shows], .inr (.inr ⟨e, b, rfl, backup, taken shows⟩)⟩
        · exact ⟨black (left shows), .inl (left shows)⟩

end

/-! ## The source sets (R13, R14) -/

theorem setHas_layerSources {k : KeyUnit} {b : Buses} {counts : Layer → LayerRecord → Bool} {n : Source} :
    setHas (layerSources k b counts) n = true ↔ ∃ l, counts l (k.get l) = true ∧ n = (b.get (fillBus l)).effective := by
  simp only [layerSources, setHas_setUnions, List.mem_map]
  constructor
  · rintro ⟨x, ⟨l, -, rfl⟩, hx⟩
    cases counted : counts l (k.get l) with
    | false => simp [counted] at hx
    | true => exact ⟨l, counted, by simpa [counted, setHas_setSingle] using hx⟩
  · rintro ⟨l, counted, rfl⟩
    exact ⟨_, ⟨l, by cases l <;> decide, rfl⟩, by simp [counted, setHas_setSingle]⟩

theorem setHas_contributionSet {e : Engine} {k : KeyUnit} {b : Buses} {n : Source} :
    setHas (contributionSet e k b) n = true ↔
      n = b.pgm.effective ∨ (e.state ≠ .idle ∧ e.selection.background = true ∧ n = b.pst.effective) ∨
      ∃ l, 0 < (k.get l).level ∧ n = (b.get (fillBus l)).effective := by
  have background : setHas (if e.movesBackground then setSingle b.pst.effective else 0#64) n = true ↔
      e.state ≠ .idle ∧ e.selection.background = true ∧ n = b.pst.effective := by
    cases moves : e.movesBackground <;> simp_all [Engine.movesBackground, setHas_setSingle]
  simp only [contributionSet, setHas_or, Bool.or_eq_true, setHas_setSingle, background, setHas_layerSources, decide_eq_true_eq, or_assoc]

theorem setHas_nextContributionSet {e : Engine} {k : KeyUnit} {b : Buses} {n : Source} :
    setHas (nextContributionSet e k b) n = true ↔
      n = (if e.selection.background then b.pst.effective else b.pgm.effective) ∨
      ∃ l, previewLevel e l (k.get l) = 1024 ∧ n = (b.get (fillBus l)).effective := by
  simp only [nextContributionSet, setHas_or, Bool.or_eq_true, setHas_setSingle, setHas_layerSources, beq_iff_eq, previewSource]

/-- A layer stands in the preview when its end state is ON, or OFF and toggled (R12). -/
theorem previewLevel_eq_full_iff {e : Engine} {l : Layer} {r : LayerRecord} : previewLevel e l r = 1024 ↔
    (((r.state = .on ∨ r.state = .rising) ∧ ¬ (e.state = .idle ∧ e.selection.mask l = true)) ∨
      (¬ (r.state = .on ∨ r.state = .rising) ∧ (e.state = .idle ∧ e.selection.mask l = true))) := by
  by_cases ends : r.state = .on ∨ r.state = .rising <;> by_cases toggled : e.state = .idle ∧ e.selection.mask l = true <;>
    simp [previewLevel_eq, ends, toggled]

end Sys2Proof.Machine

namespace Sys2Proof.SourcesAndCrosspoints

open Sys2Proof Sys2Proof.Machine Sys2Proof.Safety

/-- Settles O60: the table of R93, the members of the two sets, and of sound sources what they hold. -/
theorem soundSourcesShowNoFailureAndNoLoop : Obligations.SoundSourcesShowNoFailureAndNoLoop := by
  refine ⟨fun c m n => ?_, fun s ⟨contribution, next⟩ n => ?_, fun s sources ⟨contribution, next⟩ => ?_⟩
  · refine ⟨fun low => resolveSource_stands (.inl low), fun above he => resolveSource_unmapped (by omega) he, fun e above he =>
      ⟨fun ok => resolveSource_stands (.inr ⟨e, he, ok⟩), fun failed =>
        ⟨resolveSource_noBackup (by omega) he failed, fun b backup => ?_⟩⟩⟩
    obtain ⟨taken, left⟩ := resolveSource_backup (by omega) he failed backup
    refine ⟨fun low => taken (.inl low), fun e' above' he' => ⟨fun ok => taken (.inr ⟨e', he', ok⟩), fun failed' => left ?_⟩⟩
    rintro (low | ⟨e'', he'', ok⟩)
    · omega
    · obtain rfl := Option.some.inj (he'.symm.trans he'')
      exact ok failed'
  · intro b fill endsOn toggled
    have fills : fill = fun l => (b.get (fillBus l)).effective := by
      funext l
      cases l <;> rfl
    rw [contribution, next, setHas_contributionSet, setHas_nextContributionSet, fills]
    exact ⟨Iff.rfl, or_congr_right (exists_congr fun l => and_congr_left fun _ => previewLevel_eq_full_iff)⟩
  · obtain ⟨selects, resolved, programme, backups, -⟩ := sources
    refine ⟨fun b => ?_, fun own hp => ?_⟩
    · rw [resolved b]
      exact (resolveSource_spec _ _ _).1
    · have effective (b : Bus) : own ≠ (s.crosspoint.buses.get b).effective := by
        rintro mine
        rw [resolved b] at mine
        rcases (resolveSource_spec s.crosspoint s.monitor (s.crosspoint.buses.get b).selected).2 with
          black | itself | ⟨e, x, he, hx, backup⟩
        · have two := programme own hp
          rw [mine, black] at two
          exact absurd two (by decide)
        · exact (selects b).1.2 (by rw [hp, mine, itself])
        · exact (backups _ e x he hx).1.2 (by rw [hp, mine, backup])
      refine ⟨Bool.eq_false_iff.2 fun has => ?_, Bool.eq_false_iff.2 fun has => ?_⟩
      · rw [contribution, setHas_contributionSet] at has
        rcases has with h | ⟨-, -, h⟩ | ⟨l, -, h⟩
        · exact effective .pgm h
        · exact effective .pst h
        · exact effective (fillBus l) h
      · rw [next, setHas_nextContributionSet] at has
        rcases has with h | ⟨l, -, h⟩
        · split at h
          · exact effective .pst h
          · exact effective .pgm h
        · exact effective (fillBus l) h

end Sys2Proof.SourcesAndCrosspoints
end

section
/-! PROOF. Takes (R23 to R28, R43): the runs they begin, and a cut in IDLE. -/

namespace Sys2Proof.Machine

open Sys2Proof.Safety

/-! ## A run begun (R22, R23, R25) -/

/-- The state with an AUTO run begun at count 1, before its first progress. -/
def State.withRun (s : State) (p0 r : Nat) : State :=
  s.setEngine { s.engine with state := .auto, startProgress := p0, remaining := r, elapsed := 1, engaged := false }

theorem beginRun_runs (p0 : Nat) {r : Nat} (h : 1 < r) (s : State) :
    beginRun p0 r s = setProgress (p0 + (1024 - p0) / r) (s.withRun p0 r) := by
  have going : ¬ (s.withRun p0 r).engine.remaining ≤ (s.withRun p0 r).engine.elapsed := Nat.not_le.2 h
  have first : autoProgress p0 1 r = p0 + (1024 - p0) / r := by rw [autoProgress, Nat.one_mul]
  rw [← first]
  exact if_neg going

theorem beginRun_completes (p0 : Nat) {r : Nat} (h : r = 1) (s : State) : beginRun p0 r s = complete (s.withRun p0 r) := by
  have reached : (s.withRun p0 r).engine.remaining ≤ (s.withRun p0 r).engine.elapsed := h.le
  exact if_pos reached

/-- Completing, the engine keeps nothing of a run's counts. -/
theorem complete_withRun (s : State) (p0 r : Nat) : complete (s.withRun p0 r) = complete s := rfl

/-! ## A transition started (R24) -/

section
variable {s : State} {l : Layer}

theorem startTransition_get_rising (mask : s.engine.selection.mask l = true)
    (h : (s.keys.get l).state = .off ∨ (s.keys.get l).state = .falling) :
    (startTransition s).keys.get l = { s.keys.get l with state := .rising, elapsed := 0, moving := true } := by
  rw [startTransition_get, if_pos mask, turnLayer_toRising h]

theorem startTransition_get_falling (mask : s.engine.selection.mask l = true)
    (h : ¬ ((s.keys.get l).state = .off ∨ (s.keys.get l).state = .falling)) :
    (startTransition s).keys.get l = { s.keys.get l with state := .falling, elapsed := 0, moving := true } := by
  rw [startTransition_get, if_pos mask, turnLayer_toFalling h]

theorem startTransition_get_other (mask : s.engine.selection.mask l = false) : (startTransition s).keys.get l = s.keys.get l := by
  rw [startTransition_get, if_neg (by simp [mask])]

theorem landLayer_still {r : LayerRecord} (h : r.moving = false) : landLayer r = r := if_neg (by simp [h])

end

end Sys2Proof.Machine

namespace Sys2Proof.Transitions

open Sys2Proof Sys2Proof.Machine Sys2Proof.Safety

/-- TAKE AUTO in IDLE with a rate of 2 or more (R23, R24). -/
theorem offerTakeAuto_starts {s : State} (idle : s.engine.state = .idle) (some : s.engine.selection.isEmpty = false)
    (rate : 2 ≤ s.engine.settings.rate) :
    offerTakeAuto s = .applied (setProgress (1024 / s.engine.settings.rate) ((startTransition s).withRun 0 s.engine.settings.rate)) := by
  rw [offerTakeAuto_idle idle, if_neg (by simp [some]), beginRun_runs 0 rate, Nat.zero_add, Nat.sub_zero]

/-- TAKE AUTO in IDLE with a rate of 1 completes at once (R23). -/
theorem offerTakeAuto_at_once {s : State} (idle : s.engine.state = .idle) (some : s.engine.selection.isEmpty = false)
    (rate : s.engine.settings.rate = 1) : offerTakeAuto s = .applied (complete (startTransition s)) := by
  rw [offerTakeAuto_idle idle, if_neg (by simp [some]), beginRun_completes 0 rate, complete_withRun]

/-- Settles O44: a take in IDLE starts the transition and runs or completes it, one in LEVER goes on from the progress. -/
theorem takesStartConvertAndCut : Obligations.TakesStartConvertAndCut := by
  refine ⟨fun s idle some => ?_, fun s lever => ?_, fun s running => offerTakeCut_running running⟩
  · intro e rising
    refine ⟨fun rate => ?_, fun still => ?_⟩
    · refine ⟨_, offerTakeAuto_starts idle some rate, rfl, rfl, rfl, fun l mask rises => ?_,
        fun l mask falls => ?_, fun l mask still => ?_⟩
      · rw [setProgress_get]
        show followProgress _ ((startTransition s).keys.get l) = _
        rw [startTransition_get_rising mask rises, followProgress_rising _ rfl rfl]
      · rw [setProgress_get]
        show followProgress _ ((startTransition s).keys.get l) = _
        rw [startTransition_get_falling mask falls, followProgress_falling _ rfl rfl]
      · rw [setProgress_get]
        show followProgress _ ((startTransition s).keys.get l) = _
        rw [startTransition_get_other mask, followProgress_still _ still]
    · have cut : offerTakeCut s = .applied (complete (startTransition s)) := by
        rw [offerTakeCut_idle idle, if_neg (by simp [some])]
      have crosspoint := complete_crosspoint (startTransition s)
      refine ⟨_, cut, fun rate => ⟨_, offerTakeAuto_at_once idle some rate, rfl, rfl, rfl⟩, ?_, ⟨rfl, rfl, rfl, rfl, rfl⟩,
        fun alone => ?_, fun swaps => ?_, fun l mask rises => ?_, fun l mask falls => ?_, fun l mask => ?_⟩
      · exact complete_changes (startTransition s)
      · have stays : ¬ (startTransition s).engine.selection.background = true := Bool.eq_false_iff.1 alone
        rw [crosspoint, if_neg stays]
        rfl
      · have exchanged : (startTransition s).engine.selection.background = true := swaps
        rw [crosspoint, if_pos exchanged]
        exact ⟨rfl, rfl, rfl, rfl, rfl, rfl⟩
      · rw [complete_get, startTransition_get_rising mask rises, landLayer_rising rfl rfl, ← still l]
      · rw [complete_get, startTransition_get_falling mask falls, landLayer_falling rfl rfl, ← still l]
      · rw [complete_get, startTransition_get_other mask, landLayer_still (still l)]
  · intro e r p
    have taken : offerTakeAuto s = .applied (beginRun e.progress r s) := offerTakeAuto_lever lever
    refine ⟨_, taken, fun more => ?_, fun one => ?_⟩
    · rw [beginRun_runs _ more]
      refine ⟨rfl, fun l => ⟨fun still => ?_, fun moving rising => ?_, fun moving falling => ?_⟩⟩
      · rw [setProgress_get]
        exact followProgress_still _ still
      · rw [setProgress_get]
        exact followProgress_rising _ moving rising
      · rw [setProgress_get]
        exact followProgress_falling _ moving falling
    · rw [beginRun_completes _ one, complete_withRun]
      exact ⟨rfl, rfl, rfl, rfl⟩

end Sys2Proof.Transitions
end

section
/-! PROOF. The work of a switch point in RUNNING (R160): its parts one after another, what each leaves, and the statements about the due
entries, an AUTO run, the announcement and the reversion of a loop. -/

namespace Sys2Proof.Machine

open Sys2Proof.Safety

/-! ## Expiry where no entry is spent (R167) -/

/-- No entry has reached the age at which it expires. -/
def PeerView.Young (v : PeerView) : Prop := ∀ e ∈ v.entries, e.age < 24

theorem PeerView.Young.grow {v : PeerView} (h : ∀ e ∈ v.entries, e.age < 23) : v.grow.Young := by
  intro e he
  obtain ⟨d, hd, rfl⟩ := List.mem_map.1 he
  exact Nat.succ_lt_succ (h d hd)

theorem PeerView.Young.of_entries {v w : PeerView} (h : v.Young) (same : w.entries = v.entries) : w.Young := fun e he =>
  h e (same ▸ he)

/-- An expiry that finds no spent entry works the lever owner out again, and nothing else. -/
theorem expireWhere_young {s : State} (h : s.peers.Young) (named : PeerEntry → Bool) : expireWhere named s = reviseOwner s := by
  have kept : s.peers.entries.filter (fun e => !(e.spent && named e)) = s.peers.entries := by
    refine List.filter_eq_self.2 fun e he => ?_
    have young := h e he
    have fresh : e.spent = false := decide_eq_false (by simp only [Config.expiryAge]; omega)
    rw [fresh]
    rfl
  rw [expireWhere, kept]
  rfl

/-- Whatever the owner was, worked out again in RUNNING it is right. -/
theorem reviseOwner_sound_running {s : State} (h : s.loader.state = .running) : OwnerSound (reviseOwner s) :=
  reviseOwner_sound fun outside => absurd h outside

/-- Working the owner out again changes of the engine the lever alone. -/
theorem reviseOwner_run (s : State) : (reviseOwner s).engine.disengage = s.engine.disengage := by
  rcases reviseOwner_engine s with same | ⟨same, -⟩ <;> rw [same]
  rfl

theorem FieldActs.ownerSound {s t : State} (h : FieldActs s t) (hs : OwnerSound s) : OwnerSound t := by
  induction h with
  | refl => exact hs
  | tail _ act ih => exact ownerSound_fieldAct ih act

/-! ## The end of the field (R13, R14, R93, R168, R169, R177) -/

/-- The end of a switch point in RUNNING, once the due entries have been offered. -/
def finishField (s : State) : State :=
  noteAnnounced (announceField (deriveField (expireWhere (fun _ => true) (s.setPeers s.peers.countQuiet))))

theorem countQuiet_entries (v : PeerView) : v.countQuiet.entries = v.entries := by
  unfold PeerView.countQuiet
  split <;> rfl

theorem announceField_refusals (s : State) : (announceField s).port.refusals = s.port.refusals := by
  unfold announceField repeatStanding
  repeat' split
  all_goals rfl

/-- What the end of the field leaves. -/
theorem finishField_changes (s : State) :
    (finishField s).loader = s.loader ∧ (finishField s).raster = s.raster ∧ (finishField s).keys = s.keys ∧
    (finishField s).monitor = s.monitor ∧ (finishField s).intake.queue = s.intake.queue ∧
    (finishField s).port.refusals = s.port.refusals ∧
    (finishField s).crosspoint = { s.crosspoint with buses := resolveBuses s.crosspoint s.monitor s.crosspoint.buses } := by
  refine ⟨by simp [finishField], by simp [finishField], by simp [finishField], by simp [finishField], by simp [finishField], ?_, ?_⟩
  · simp [finishField, announceField_refusals]
  · simp [finishField, deriveField_crosspoint]

/-- The selections stand through the end of the field. -/
theorem finishField_get (s : State) (b : Bus) : (finishField s).crosspoint.buses.get b =
    { s.crosspoint.buses.get b with effective := resolveSource s.crosspoint s.monitor (s.crosspoint.buses.get b).selected } := by
  obtain ⟨-, -, -, -, -, -, crosspoint⟩ := finishField_changes s
  rw [crosspoint]
  simp [resolveBuses]

/-- With no entry spent and the owner right, the engine stands through the end of the field. -/
theorem finishField_engine {s : State} (young : s.peers.Young) (owner : OwnerSound s) : (finishField s).engine = s.engine := by
  have quiet : OwnerSound (s.setPeers s.peers.countQuiet) := ownerSound_fieldAct owner (.quiet s)
  have still : (s.setPeers s.peers.countQuiet).peers.Young := young.of_entries (countQuiet_entries _)
  simp [finishField, expireWhere_young still, reviseOwner_of_sound quiet]

/-! ## The parts of the field in order (R160) -/

theorem takeSwitchPoint_of_running {s : State} (h : s.loader.state = .running) : takeSwitchPoint s =
    finishField (offerDue s.freeCount (breakCycle (expireUpTo s.freeCount 0 (advanceAll (openField s))))) := by
  simp [takeSwitchPoint, workField, h, runField, finishField]

theorem advanceAll_peers (s : State) : (advanceAll s).peers = s.peers.grow := by simp [advanceAll]

theorem advanceAll_engine (s : State) : (advanceAll s).engine = (advanceEngine (s.setPeers s.peers.grow)).engine := by
  simp [advanceAll]

theorem advanceAll_crosspoint (s : State) : (advanceAll s).crosspoint = (advanceEngine (s.setPeers s.peers.grow)).crosspoint := by
  simp [advanceAll]

/-- Growing older makes no peer a mixer, and none cease to be one. -/
theorem PeerView.mixPeers_grow (v : PeerView) : v.grow.mixPeers = v.mixPeers := by
  simp only [PeerView.mixPeers, PeerView.grow, List.filterMap_map]
  rfl

/-- The cycle test sees of a state the programme number, the sets, the station's number and the live MIX peers. -/
theorem cycleNumbers_congr {s t : State} (hp : t.crosspoint.programme = s.crosspoint.programme) (hs : t.sets = s.sets)
    (hl : t.loader.station = s.loader.station) (hm : t.peers.mixPeers = s.peers.mixPeers) : cycleNumbers t = cycleNumbers s := by
  have nodes : reducedNodes t = reducedNodes s := by simp only [reducedNodes, hl, hm]
  unfold cycleNumbers
  rw [hp, hs, nodes]

section
variable {s : State} (running : s.loader.state = .running) (young : ∀ e ∈ s.peers.entries, e.age < 23)

include young in
theorem advanced_young : (advanceAll (openField s)).peers.Young := by
  rw [advanceAll_peers]
  exact PeerView.Young.grow young

theorem advanced_cycleNumbers (s : State) : cycleNumbers (reviseOwner (advanceAll (openField s))) = cycleNumbers s := by
  refine cycleNumbers_congr ?_ (by simp) (by simp) ?_
  · have keeps := (advanceEngine_acts ((openField s).setPeers (openField s).peers.grow)).crosspoint
    rw [(reviseOwner_frame _).2.2.2.2.1, advanceAll_crosspoint, keeps.programme]
    rfl
  · rw [(reviseOwner_frame _).2.2.2.1, advanceAll_peers, PeerView.mixPeers_grow]
    rfl

include running young

/-- What the owners of the due entries find where no entry expires: the advances made, and a lever owner that is right. -/
theorem takeSwitchPoint_young : takeSwitchPoint s =
    finishField (offerDue s.freeCount (breakCycle (reviseOwner (advanceAll (openField s))))) := by
  rw [takeSwitchPoint_of_running running, expireUpTo, expireWhere_young (advanced_young young)]

theorem offered_sound : OwnerSound (reviseOwner (advanceAll (openField s))) ∧ (reviseOwner (advanceAll (openField s))).peers.Young := by
  refine ⟨reviseOwner_sound_running (by simpa using running), ?_⟩
  rw [(reviseOwner_frame _).2.2.2.1]
  exact advanced_young young

end

/-- One due entry waiting is offered, and its answer settles the queue. -/
theorem offerDue_single (c : Nat) {s : State} {e : Entry} (queue : s.intake.queue = [e]) (due : e.due ≤ s.raster.field)
    (young : s.peers.Young) (owner : OwnerSound s) : offerDue c s =
      (settleAnswer e [] s (offer e s)).1.setIntake
        { (settleAnswer e [] s (offer e s)).1.intake with queue := (settleAnswer e [] s (offer e s)).2 } := by
  have waiting : (settleAnswer e [] s (offer e s)).1.intake.queue = [e] := by
    rcases settleAnswer_cases e [] s with ⟨t, applied, settled⟩ | ⟨-, settled⟩ | ⟨reason, detail, -, settled⟩ <;> rw [settled]
    · rw [(offer_applied_frame e s t applied).2.2.2.2.2.2.2.2.2, queue]
    · exact queue
    · exact queue
  have turn : expireUpTo c 1 s = s := by rw [expireUpTo, expireWhere_young young, reviseOwner_of_sound owner]
  simp [offerDue, queue, due, offerAll, turn, waiting]

/-! ## From the event to the switch point (R122) -/

theorem Raster.runTo_field (r : Raster) (ls : List Nat) : (r.runTo ls).field = r.field := by
  unfold runTo
  split <;> rfl

/-- What a move of the counters leaves as it stands. -/
structure SameButPlace (s v : State) : Prop where
  loader : v.loader = s.loader
  port : v.port = s.port
  intake : v.intake = s.intake
  peers : v.peers = s.peers
  crosspoint : v.crosspoint = s.crosspoint
  sets : v.sets = s.sets
  engine : v.engine = s.engine
  keys : v.keys = s.keys
  field : v.raster.field = s.raster.field

theorem SameButPlace.cycleNumbers {s v : State} (h : SameButPlace s v) : Machine.cycleNumbers v = Machine.cycleNumbers s :=
  cycleNumbers_congr (by rw [h.crosspoint]) h.sets (by rw [h.loader]) (by rw [h.peers])

theorem moveToSwitchLine_same (s : State) : SameButPlace s (moveCounters (s.raster.runTo s.raster.switchLines) s) := by
  constructor
  case field => rw [(moveCounters_generator _ _).2.2.2.1, Raster.runTo_field]
  all_goals simp

/-- SWITCH_POINT in RUNNING with the flag set is the switch point at the switch line. -/
theorem exec_switchPoint_running {s : State} (h : Running s) (flag : s.raster.deadlineFlag = true) :
    exec .switchPoint s = .next (takeSwitchPoint (moveCounters (s.raster.runTo s.raster.switchLines) s)) := by
  obtain ⟨released, running⟩ := h
  exact exec_switchPoint_set ⟨released, Loader.unreadable_of_state _ (by simp [running])⟩ flag

/-! ## A switch point with one due entry, or none (R160) -/

/-- A state has the engine, the layers, the Monitor and the selections of another. -/
def StandsAs (t v : State) : Prop :=
  t.engine = v.engine ∧ t.keys = v.keys ∧ t.monitor = v.monitor ∧
    ∀ b, (t.crosspoint.buses.get b).selected = (v.crosspoint.buses.get b).selected ∧
      (t.crosspoint.buses.get b).previous = (v.crosspoint.buses.get b).previous ∧
      (t.crosspoint.buses.get b).lastSelector = (v.crosspoint.buses.get b).lastSelector

theorem finishField_standsAs {s : State} (young : s.peers.Young) (owner : OwnerSound s) : StandsAs (finishField s) s := by
  obtain ⟨-, -, keys, monitor, -⟩ := finishField_changes s
  refine ⟨finishField_engine young owner, keys, monitor, fun b => ?_⟩
  rw [finishField_get]
  exact ⟨rfl, rfl, rfl⟩

theorem breakCycle_none {s : State} (h : cycleNumbers s = none) : breakCycle s = s := by
  unfold breakCycle
  rw [h]

section
variable {s : State} (running : s.loader.state = .running) (young : ∀ e ∈ s.peers.entries, e.age < 23) (cycle : cycleNumbers s = none)
include running young cycle

/-- No entry waiting, the field ends on what the advances leave. -/
theorem takeSwitchPoint_empty (queue : s.intake.queue = []) :
    takeSwitchPoint s = finishField (reviseOwner (advanceAll (openField s))) := by
  have none : (reviseOwner (advanceAll (openField s))).intake.queue = [] := by simpa using queue
  rw [takeSwitchPoint_young running young, breakCycle_none (by rw [advanced_cycleNumbers, cycle]), offerDue_of_empty _ none]

/-- One due entry waiting, its owner answers on what the advances leave. -/
theorem takeSwitchPoint_single {e : Entry} (queue : s.intake.queue = [e]) (due : e.due ≤ s.raster.field + 1) {u : State}
    (hu : u = reviseOwner (advanceAll (openField s))) :
    (∀ v, offer e u = .applied v → (takeSwitchPoint s).intake.queue = [] ∧ StandsAs (takeSwitchPoint s) v ∧
      (takeSwitchPoint s).port.refusals = s.port.refusals) ∧
    (∀ reason detail, offer e u = .refused reason detail → (takeSwitchPoint s).intake.queue = [] ∧ StandsAs (takeSwitchPoint s) u ∧
      (takeSwitchPoint s).port.refusals = if s.port.refusals.length < 4 then
          s.port.refusals ++ [{ target := e.sender, kind := e.action.frameKind, reason := reason, detail := detail, errors := 0 }]
        else s.port.refusals) ∧
    (offer e u = .deferred → (takeSwitchPoint s).intake.queue = [e] ∧ StandsAs (takeSwitchPoint s) u ∧
      (takeSwitchPoint s).port.refusals = s.port.refusals) := by
  obtain ⟨owner, still⟩ := offered_sound running young
  rw [takeSwitchPoint_young running young, breakCycle_none (by rw [advanced_cycleNumbers, cycle]), ← hu]
  rw [← hu] at owner still
  have waiting : u.intake.queue = [e] := by simpa [hu] using queue
  have field : u.raster.field = s.raster.field + 1 := by simp [hu, openField, Raster.openField]
  have state : u.loader.state = .running := by simpa [hu] using running
  have refusals : u.port.refusals = s.port.refusals := by simp [hu, Port.newBudget]
  have offered := offerDue_single s.freeCount waiting (by rw [field]; exact due) still owner
  have sound : OwnerSound (offerDue s.freeCount u) := (offerDue_fieldActs s.freeCount state).ownerSound owner
  have ends (x : State) (q : List Entry) (hx : offerDue s.freeCount u = x.setIntake { x.intake with queue := q })
      (peers : x.peers = u.peers) : (finishField (offerDue s.freeCount u)).intake.queue = q ∧
        StandsAs (finishField (offerDue s.freeCount u)) x ∧
        (finishField (offerDue s.freeCount u)).port.refusals = x.port.refusals := by
    rw [hx] at sound ⊢
    obtain ⟨-, -, -, -, left, kept, -⟩ := finishField_changes (x.setIntake { x.intake with queue := q })
    exact ⟨left, finishField_standsAs (still.of_entries (by rw [← peers]; rfl)) sound, kept⟩
  refine ⟨fun v applied => ?_, fun reason detail refused => ?_, fun deferred => ?_⟩
  · have frame := offer_applied_frame e u v applied
    have settled := ends v [] (by rw [offered, applied]; rfl) (by simp [frame])
    rwa [show v.port.refusals = s.port.refusals by simp [frame, refusals]] at settled
  · have settled := ends (refuse e.sender e.action.frameKind reason detail u) [] (by rw [offered, refused]; rfl) (by simp)
    obtain ⟨left, stands, records⟩ := settled
    refine ⟨left, ?_, ?_⟩
    · simpa [StandsAs] using stands
    · rw [records, refuse_port, Port.refuse, refusals]
      by_cases room : s.port.refusals.length < 4 <;> simp [Config.refusalCapacity, room, refusals]
  · have settled := ends u [e] (by rw [offered, deferred]; rfl) rfl
    rwa [refusals] at settled

end

/-! ## The engine's advance (R21, R22) -/

/-- Below the remaining rate an AUTO run counts on and takes the progress of R22. -/
theorem advanceEngine_runs {s : State} (auto : s.engine.state = .auto) (below : s.engine.elapsed + 1 < s.engine.remaining) :
    (advanceEngine s).engine = { s.engine with
      elapsed := s.engine.elapsed + 1,
      progress := s.engine.startProgress + (s.engine.elapsed + 1) * (1024 - s.engine.startProgress) / s.engine.remaining } := by
  simp [advanceEngine, auto, advanceRun, settleRun, Nat.not_le.2 below, setProgress, autoProgress]

/-- At it the run completes. -/
theorem advanceEngine_completes {s : State} (auto : s.engine.state = .auto) (reached : s.engine.remaining ≤ s.engine.elapsed + 1) :
    advanceEngine s = complete (s.setEngine { s.engine with elapsed := s.engine.elapsed + 1 }) := by
  simp [advanceEngine, auto, advanceRun, settleRun, reached]

/-- Engines that differ in the lever alone have the same run and settings. -/
theorem Engine.run_eq {e e' : Engine} (h : e.disengage = e'.disengage) : e.state = e'.state ∧ e.progress = e'.progress ∧
    e.elapsed = e'.elapsed ∧ e.settings = e'.settings ∧ e.selection = e'.selection := by
  simp only [Engine.disengage, Engine.mk.injEq] at h
  obtain ⟨state, progress, -, elapsed, -, settings, -, selection, -⟩ := h
  exact ⟨state, progress, elapsed, settings, selection⟩

/-- The engine that the owners of the entries find is the advanced one but for the lever. -/
theorem advanced_engine {s : State} : (reviseOwner (advanceAll (openField s))).engine.disengage =
    (advanceEngine ((openField s).setPeers (openField s).peers.grow)).engine.disengage := by
  rw [reviseOwner_run, advanceAll_engine]

/-! ## The comparison of announced values (R177) -/

/-- The announced values and the repeat count as the field before left them, and STANDING as pending as it was. -/
structure AnnouncedAs (s u : State) : Prop where
  announced : u.peers.announced = s.peers.announced
  repeatCount : u.peers.repeatCount = s.peers.repeatCount
  pending : u.port.standingPending = s.port.standingPending
  renewed : u.port.standingRenewed = s.port.standingRenewed

theorem Port.refuse_standing (p : Port) (r : RefusalRecord) :
    (p.refuse r).standingPending = p.standingPending ∧ (p.refuse r).standingRenewed = p.standingRenewed := by
  unfold Port.refuse
  split <;> exact ⟨rfl, rfl⟩

theorem refuseLoopBroken_standing (bus : Bus) (last : Option Station) (s : State) :
    (refuseLoopBroken bus last s).port.standingPending = s.port.standingPending ∧
      (refuseLoopBroken bus last s).port.standingRenewed = s.port.standingRenewed := by
  unfold refuseLoopBroken
  split
  · exact ⟨rfl, rfl⟩
  · split
    · exact Port.refuse_standing _ _
    · exact ⟨rfl, rfl⟩

theorem AnnouncedAs.fieldAct {s u v : State} (h : AnnouncedAs s u) (act : FieldAct u v) : AnnouncedAs s v := by
  obtain ⟨announced, repeatCount, pending, renewed⟩ := h
  have same (peers : v.peers.announced = u.peers.announced ∧ v.peers.repeatCount = u.peers.repeatCount)
      (port : v.port.standingPending = u.port.standingPending ∧ v.port.standingRenewed = u.port.standingRenewed) : AnnouncedAs s v :=
    ⟨peers.1.trans announced, peers.2.trans repeatCount, port.1.trans pending, port.2.trans renewed⟩
  cases act with
  | grow => exact same ⟨rfl, rfl⟩ ⟨rfl, rfl⟩
  | revert named bus =>
    refine same (by simp) ?_
    simp only [revertBus]
    split
    · exact refuseLoopBroken_standing bus _ _
    · exact ⟨rfl, rfl⟩
  | applied _ e _ _ offered =>
    have frame := offer_applied_frame e _ _ offered
    exact same (by simp [frame]) (by simp [frame])
  | refuse => exact same (by simp) (Port.refuse_standing _ _)
  | quiet =>
    refine same ?_ ⟨rfl, rfl⟩
    simp only [State.setPeers_peers, PeerView.countQuiet]
    split <;> exact ⟨rfl, rfl⟩
  | _ => exact same (by simp) (by simp)

/-- What the comparison of a field does with STANDING and the repeat count (R177). -/
theorem announceField_spec (s : State) :
    (announcedOf s ≠ s.peers.announced →
      (announceField s).port.standingPending = true ∧ (announceField s).peers.repeatCount = 0) ∧
    (announcedOf s = s.peers.announced → s.peers.repeatCount < 7 →
      (announceField s).port = s.port ∧ (announceField s).peers.repeatCount = s.peers.repeatCount + 1) ∧
    (announcedOf s = s.peers.announced → 7 ≤ s.peers.repeatCount →
      (announceField s).port.standingPending = true ∧ (announceField s).peers.repeatCount = 0) := by
  refine ⟨fun differ => ?_, fun same below => ?_, fun same reached => ?_⟩
  · rw [announceField, if_pos differ]
    exact ⟨rfl, rfl⟩
  · have waits : ¬ 8 ≤ s.peers.repeatCount + 1 := by omega
    simp [announceField, same, repeatStanding, Config.repeatPeriod, waits]
  · have repeats : 8 ≤ s.peers.repeatCount + 1 := by omega
    simp [announceField, same, repeatStanding, Config.repeatPeriod, repeats, Port.pendStanding]

/-- The comparison leaves every announced value as it stands. -/
theorem announcedOf_finish (s : State) : announcedOf (noteAnnounced (announceField s)) = announcedOf s := by
  have duplicate : (announceField s).peers.duplicate = s.peers.duplicate := by rw [announceField_peers]
  simp [announcedOf, duplicate]

end Sys2Proof.Machine

namespace Sys2Proof.TheFieldActionQueue

open Sys2Proof Sys2Proof.Machine Sys2Proof.Safety

/-- Settles O36: the queue by `offerDue_queue`, the kinds by the definition of an offer, and one due entry answered on what the
advances leave. -/
theorem offeredEntriesLeaveOrAreDeferred : Obligations.OfferedEntriesLeaveOrAreDeferred := by
  refine ⟨fun s running flag => ?_, fun s p due => ⟨fun _ _ => rfl, rfl, rfl, fun _ => rfl, fun _ => rfl, fun _ => rfl, fun _ _ => rfl,
    fun _ _ => rfl, fun _ => rfl⟩, fun s e running flag owner young cycle queue due => ?_⟩
  · have kept := moveToSwitchLine_same s
    generalize hv : moveCounters (s.raster.runTo s.raster.switchLines) s = v at kept
    let z := breakCycle (expireUpTo v.freeCount 0 (advanceAll (openField v)))
    have waiting : z.intake.queue = s.intake.queue := by simp [z, kept.intake]
    have field : z.raster.field = s.raster.field + 1 := by simp [z, openField, Raster.openField, kept.field]
    obtain ⟨deferred, left, among, kinds⟩ := offerDue_queue v.freeCount z
    rw [waiting, field] at left among
    refine ⟨takeSwitchPoint v, deferred, by rw [exec_switchPoint_running running flag, hv], ?_, among, kinds⟩
    have state : v.loader.state = .running := by rw [kept.loader, running.2]
    obtain ⟨-, -, -, -, same, -⟩ := finishField_changes (offerDue v.freeCount z)
    rw [takeSwitchPoint_of_running state, same, left]
    simp [← decide_not]
  · have kept := moveToSwitchLine_same s
    intro u becomes
    have found : u = advanceAll (openField (moveCounters (s.raster.runTo s.raster.switchLines) s)) := rfl
    generalize hv : moveCounters (s.raster.runTo s.raster.switchLines) s = v at kept found
    have state : v.loader.state = .running := by rw [kept.loader, running.2]
    have still : ∀ x ∈ v.peers.entries, x.age < 23 := by rwa [kept.peers]
    have uncycled : cycleNumbers v = none := kept.cycleNumbers.trans cycle
    have right : reviseOwner u = u := by
      have opened : OwnerSound (openField v) := ownerSound_of_same owner
        (.of_eq (by simp [kept.loader]) (by simp [kept.peers]) (by simp [kept.intake]))
      rw [found]
      exact reviseOwner_of_sound ((advanceAll_fieldActs (openField v)).ownerSound opened)
    obtain ⟨applied, refused, deferred⟩ := takeSwitchPoint_single state still uncycled (e := e) (by rw [kept.intake, queue])
      (by rw [kept.field]; exact due) (u := u) (by rw [← found, right])
    rw [kept.port] at applied refused deferred
    refine ⟨takeSwitchPoint v, by rw [exec_switchPoint_running running flag, hv], fun idle latest rest => ?_, applied, refused, deferred⟩
    have engine : ((openField v).setPeers (openField v).peers.grow).engine = s.engine := kept.engine
    have keys : ((openField v).setPeers (openField v).peers.grow).keys = s.keys := kept.keys
    have crosspoint : ((openField v).setPeers (openField v).peers.grow).crosspoint = s.crosspoint := kept.crosspoint
    have advanced : advanceEngine ((openField v).setPeers (openField v).peers.grow) = (openField v).setPeers (openField v).peers.grow :=
      advanceEngine_idle (by rw [engine, idle]) (by rw [engine, latest])
    have layers : advanceKeys ((openField v).setPeers (openField v).peers.grow) = (openField v).setPeers (openField v).peers.grow :=
      advanceKeys_still (by rwa [keys])
    rw [found, advanceAll, advanced, layers]
    simp [kept.engine, kept.keys, kept.crosspoint]

/-- Settles O37: an entry applied replaces what it carries, and one deferred waits on. -/
theorem settingsEntriesReplaceWhatTheyCarry : Obligations.SettingsEntriesReplaceWhatTheyCarry := by
  unfold Obligations.SettingsEntriesReplaceWhatTheyCarry
  intro settings
  have applied {s : State} (idle : s.engine.state = .idle) (f : TransetFields) (n : Selection) :
      offerTranset f s = .applied (s.setEngine
        { s.engine with settings := settings f s.engine.settings, remaining := f.rate.getD s.engine.settings.rate }) ∧
      offerNextsel n s = .applied (s.setEngine { s.engine with selection := n }) :=
    ⟨if_pos idle, if_pos idle⟩
  have deferred {s : State} (moving : s.engine.state ≠ .idle) (f : TransetFields) (n : Selection) :
      offerTranset f s = .deferred ∧ offerNextsel n s = .deferred := ⟨if_neg moving, if_neg moving⟩
  refine ⟨fun s f n => ⟨fun idle => applied idle f n, fun moving => deferred moving f n⟩, fun s l f unplaced => ?_,
    fun s e f n running flag young cycle queue due kind => ?_⟩
  · have taken : offerKeyset l f s = .applied (s.setKeys (s.keys.set l { s.keys.get l with
        settings := applyKeyset f (s.keys.get l).settings })) := by
      simp [offerKeyset, unplaced]
    refine ⟨_, taken, rfl, by cases l <;> rfl, fun x other => ?_, ?_⟩
    · rw [State.setKeys_keys, KeyUnit.get_set, if_neg other]
    · rw [State.setKeys_keys, KeyUnit.get_set, if_pos rfl]
      rfl
  · have kept := moveToSwitchLine_same s
    generalize hv : moveCounters (s.raster.runTo s.raster.switchLines) s = v at kept
    have state : v.loader.state = .running := by rw [kept.loader, running.2]
    have still : ∀ x ∈ v.peers.entries, x.age < 23 := by rwa [kept.peers]
    have uncycled : cycleNumbers v = none := kept.cycleNumbers.trans cycle
    have engine : ((openField v).setPeers (openField v).peers.grow).engine = s.engine := kept.engine
    have lever := advanced_engine (s := v)
    generalize hu : reviseOwner (advanceAll (openField v)) = u at lever
    obtain ⟨taken, -, waits⟩ := takeSwitchPoint_single state still uncycled (e := e) (by rw [kept.intake, queue])
      (by rw [kept.field]; exact due) hu.symm
    have offered : (e.action = .transet f → offer e u = offerTranset f u) ∧ (e.action = .nextsel n → offer e u = offerNextsel n u) :=
      ⟨fun h => by rw [offer, h], fun h => by rw [offer, h]⟩
    refine ⟨takeSwitchPoint v, by rw [exec_switchPoint_running running flag, hv], fun idle latest => ?_, fun auto below => ?_⟩
    · rw [advanceEngine_idle (by rw [engine, idle]) (by rw [engine, latest]), engine] at lever
      obtain ⟨stopped, -, -, set, selected⟩ := Engine.run_eq lever
      have answers := applied (stopped.trans idle) f n
      refine ⟨?_, fun isTranset => ?_, fun isNextsel => ?_⟩
      · rcases kind with h | h
        · exact (taken _ ((offered.1 h).trans answers.1)).1
        · exact (taken _ ((offered.2 h).trans answers.2)).1
      · obtain ⟨-, ⟨stands, -⟩, -⟩ := taken _ ((offered.1 isTranset).trans answers.1)
        rw [stands, ← set, ← selected]
        exact ⟨rfl, rfl⟩
      · obtain ⟨-, ⟨stands, -⟩, -⟩ := taken _ ((offered.2 isNextsel).trans answers.2)
        rw [stands, ← set]
        exact ⟨rfl, rfl⟩
    · rw [advanceEngine_runs (by rw [engine, auto]) (by rw [engine]; exact below), engine] at lever
      obtain ⟨going, -, -, set, selected⟩ := Engine.run_eq lever
      have answers := deferred (s := u) (by rw [going]; simp [auto]) f n
      have deferral : offer e u = .deferred := by
        rcases kind with h | h
        · exact (offered.1 h).trans answers.1
        · exact (offered.2 h).trans answers.2
      obtain ⟨left, ⟨stands, -⟩, -⟩ := waits deferral
      rw [stands]
      exact ⟨left, set, selected⟩

end Sys2Proof.TheFieldActionQueue

namespace Sys2Proof.Transitions

open Sys2Proof Sys2Proof.Machine Sys2Proof.Safety

/-- Settles O38: the advance of the run, which the end of the field leaves. -/
theorem autoRunAdvancesToCompletion : Obligations.AutoRunAdvancesToCompletion := by
  intro s running flag queue young cycle auto
  have kept := moveToSwitchLine_same s
  generalize hv : moveCounters (s.raster.runTo s.raster.switchLines) s = v at kept
  have state : v.loader.state = .running := by rw [kept.loader, running.2]
  have still : ∀ x ∈ v.peers.entries, x.age < 23 := by rwa [kept.peers]
  have uncycled : cycleNumbers v = none := kept.cycleNumbers.trans cycle
  obtain ⟨owner, fresh⟩ := offered_sound state still
  obtain ⟨ends, -, -, buses⟩ := finishField_standsAs fresh owner
  have lever := advanced_engine (s := v)
  rw [← ends, ← takeSwitchPoint_empty state still uncycled (by rw [kept.intake, queue])] at lever
  rw [(reviseOwner_frame _).2.2.2.2.1, advanceAll_crosspoint, ← takeSwitchPoint_empty state still uncycled (by rw [kept.intake, queue])]
    at buses
  have engine : ((openField v).setPeers (openField v).peers.grow).engine = s.engine := kept.engine
  have crosspoint : ((openField v).setPeers (openField v).peers.grow).crosspoint = s.crosspoint := kept.crosspoint
  generalize (openField v).setPeers (openField v).peers.grow = y at lever buses engine crosspoint
  refine ⟨takeSwitchPoint v, by rw [exec_switchPoint_running running flag, hv], fun below => ?_, fun reached => ?_⟩
  · rw [advanceEngine_runs (by rw [engine, auto]) (by rw [engine]; exact below), engine] at lever
    obtain ⟨runs, progress, elapsed, -⟩ := Engine.run_eq lever
    exact ⟨runs.trans auto, elapsed, progress⟩
  · rw [advanceEngine_completes (by rw [engine, auto]) (by rw [engine]; exact reached)] at lever buses
    obtain ⟨rests, progress, elapsed, -⟩ := Engine.run_eq lever
    refine ⟨rests, progress, elapsed, fun swaps => ?_⟩
    have exchanged : (y.setEngine { y.engine with elapsed := y.engine.elapsed + 1 }).engine.selection.background = true := by
      rw [State.setEngine_engine, engine, swaps]
    rw [complete_crosspoint, if_pos exchanged, State.setEngine_crosspoint, crosspoint] at buses
    exact ⟨(buses .pgm).1, (buses .pst).1⟩

end Sys2Proof.Transitions

namespace Sys2Proof.ThePeerView

open Sys2Proof Sys2Proof.Machine Sys2Proof.Safety

/-- Settles O41: the work of the field keeps what the field before announced, up to the comparison. -/
theorem standingAnnouncesEveryChange : Obligations.StandingAnnouncesEveryChange := by
  refine ⟨fun s => rfl, fun s running flag => ?_⟩
  have kept := moveToSwitchLine_same s
  generalize hv : moveCounters (s.raster.runTo s.raster.switchLines) s = v at kept
  have state : v.loader.state = .running := by rw [kept.loader, running.2]
  refine ⟨takeSwitchPoint v, by rw [exec_switchPoint_running running flag, hv], ?_⟩
  have opened : AnnouncedAs s (openField v) := ⟨by simp [kept.peers], by simp [kept.peers], by simp [kept.port, Port.newBudget],
    by simp [kept.port, Port.newBudget]⟩
  have only {p : Prop} (other : v.loader.state ≠ .running) : p := absurd state other
  refine takeSwitchPoint_keeps (inv := fun t => t.peers.announced = announcedOf t ∧
    (announcedOf t ≠ s.peers.announced → t.port.standingPending = true ∧ t.peers.repeatCount = 0) ∧
    (announcedOf t = s.peers.announced → s.peers.repeatCount < 7 →
      t.port.standingPending = s.port.standingPending ∧ t.port.standingRenewed = s.port.standingRenewed ∧
      t.peers.repeatCount = s.peers.repeatCount + 1) ∧
    (announcedOf t = s.peers.announced → 7 ≤ s.peers.repeatCount →
      t.port.standingPending = true ∧ t.peers.repeatCount = 0)) (mid := AnnouncedAs s) opened (fun act h => h.fieldAct act)
    (fun loading => only (by simp [loading])) (fun u loader _ mid => ?_) (fun u _ listening _ => only (by simp [listening]))
    (fun u _ barred _ => only (by simp [barred]))
  have expired : AnnouncedAs s (deriveField (expireWhere (fun _ => true) u)) := by
    obtain ⟨announced, repeatCount, pending, renewed⟩ := mid.fieldAct (.expire u fun _ => true)
    exact ⟨by simpa using announced, by simpa using repeatCount, by simpa using pending, by simpa using renewed⟩
  generalize deriveField (expireWhere (fun _ => true) u) = w at expired
  obtain ⟨differs, below, reached⟩ := announceField_spec w
  rw [expired.announced] at differs below reached
  rw [expired.repeatCount] at below reached
  rw [announcedOf_finish]
  refine ⟨?_, differs, fun same count => ?_, reached⟩
  · rw [← announcedOf_finish]
    rfl
  · obtain ⟨port, repeatCount⟩ := below same count
    have left : (noteAnnounced (announceField w)).port = w.port := by rw [(noteAnnounced_frame _).2.2.1, port]
    rw [left]
    exact ⟨expired.pending, expired.renewed, repeatCount⟩

end Sys2Proof.ThePeerView
end

section
/-! PROOF. The reversion of a loop (R96, R136, R174): the buses that show a named number reverted in the order of their numbers. -/

namespace Sys2Proof.Machine

open Sys2Proof.Safety

/-! ## One bus (R96) -/

/-- What a bus shows, as its selection and the health states give it. -/
def State.shows (s : State) (b : Bus) : Source := resolveSource s.crosspoint s.monitor (s.crosspoint.buses.get b).selected

/-- The LOOP_BROKEN of a bus that is reverted, to its last selector when that is present and live. -/
def State.loopBroken (s : State) (named : List Source) (b : Bus) : Option RefusalRecord :=
  if s.shows b ∈ named then
    ((s.crosspoint.buses.get b).lastSelector.filter fun p => (s.peers.find p).isSome).map fun p =>
      { target := p, kind := .pick, reason := .loopBroken, detail := busNumber b, errors := 0 }
  else none

/-- A bus record once the cycle is broken. -/
def State.afterBreak (s : State) (named : List Source) (b : Bus) : BusRecord :=
  if s.shows b ∈ named then (s.crosspoint.buses.get b).revert named else s.crosspoint.buses.get b

theorem Port.refuse_refusals {p : Port} (h : p.refusals.length ≤ 4) (r : RefusalRecord) :
    (p.refuse r).refusals = (p.refusals ++ [r]).take 4 := by
  by_cases room : p.refusals.length < 4
  · rw [List.take_of_length_le (by simp; omega)]
    simp [Port.refuse, Config.refusalCapacity, room]
  · have full : p.refusals.length = 4 := by omega
    rw [List.take_append_of_le_length full.ge, List.take_of_length_le full.le]
    simp [Port.refuse, Config.refusalCapacity, full]

theorem Port.refuse_only (p : Port) (r : RefusalRecord) : p.refuse r = { p with refusals := (p.refuse r).refusals } := by
  unfold Port.refuse
  split <;> rfl

/-- The LOOP_BROKEN that a last selector gets. -/
theorem refuseLoopBroken_spec (bus : Bus) (last : Option Station) (s : State) :
    refuseLoopBroken bus last s = s.setPort { s.port with refusals := (refuseLoopBroken bus last s).port.refusals } ∧
    (s.port.refusals.length ≤ 4 → (refuseLoopBroken bus last s).port.refusals =
      (s.port.refusals ++ ((last.filter fun p => (s.peers.find p).isSome).map fun p =>
        { target := p, kind := .pick, reason := .loopBroken, detail := busNumber bus, errors := 0 : RefusalRecord }).toList).take 4) := by
  have silent (h : s.port.refusals.length ≤ 4) : s.port.refusals = (s.port.refusals ++ []).take 4 := by
    rw [List.append_nil, List.take_of_length_le h]
  cases last with
  | none => exact ⟨rfl, silent⟩
  | some p =>
    by_cases live : (s.peers.find p).isSome = true
    · simp only [refuseLoopBroken, live, if_true, Option.filter, Option.map_some, Option.toList_some, refuse_port]
      refine ⟨?_, fun h => Port.refuse_refusals h _⟩
      exact congrArg s.setPort (Port.refuse_only _ _)
    · simp only [refuseLoopBroken, live, Option.filter]
      exact ⟨rfl, silent⟩

theorem filterMap_singleton {α β : Type} (f : α → Option β) (a : α) : [a].filterMap f = (f a).toList := by
  cases h : f a <;> simp [h]

/-- What fits of a list that was cut before fits of the list as it was. -/
theorem take_take_append {α : Type} (n : Nat) (l m : List α) : (l.take n ++ m).take n = (l ++ m).take n := by
  rw [List.take_append, List.take_append, List.take_take, Nat.min_self, List.length_take]
  congr 2
  omega

/-- What reverting some buses leaves: their records and their LOOP_BROKEN, in their order, and nothing else. -/
structure Reverted (named : List Source) (s t : State) (buses : List Bus) : Prop where
  reverted : ∀ b ∈ buses, t.crosspoint.buses.get b = s.afterBreak named b
  others : ∀ b, b ∉ buses → t.crosspoint.buses.get b = s.crosspoint.buses.get b
  refusals : s.port.refusals.length ≤ 4 →
    t.port.refusals = (s.port.refusals ++ buses.filterMap (s.loopBroken named)).take 4
  only : t = (s.setCrosspoint { s.crosspoint with buses := t.crosspoint.buses }).setPort { s.port with refusals := t.port.refusals }

theorem Reverted.nothing (named : List Source) (s : State) : Reverted named s s [] :=
  ⟨nofun, fun _ _ => rfl, fun h => by simp [h], rfl⟩

theorem revertBus_reverted (named : List Source) (s : State) (bus : Bus) : Reverted named s (revertBus named s bus) [bus] := by
  by_cases shows : s.shows bus ∈ named
  · have reverts : revertBus named s bus = refuseLoopBroken bus (s.crosspoint.buses.get bus).lastSelector
        (s.setCrosspoint { s.crosspoint with
          buses := s.crosspoint.buses.set bus ((s.crosspoint.buses.get bus).revert named) }) :=
      if_pos (List.contains_iff_mem.2 shows)
    obtain ⟨port, records⟩ := refuseLoopBroken_spec bus (s.crosspoint.buses.get bus).lastSelector
      (s.setCrosspoint { s.crosspoint with buses := s.crosspoint.buses.set bus ((s.crosspoint.buses.get bus).revert named) })
    rw [← reverts] at port records
    have crosspoint : (revertBus named s bus).crosspoint =
        { s.crosspoint with buses := s.crosspoint.buses.set bus ((s.crosspoint.buses.get bus).revert named) } := by rw [port]; rfl
    refine ⟨fun b same => ?_, fun b other => ?_, fun room => ?_, ?_⟩
    · obtain rfl := List.mem_singleton.1 same
      rw [crosspoint, State.afterBreak, if_pos shows, Buses.get_set_same]
    · rw [crosspoint, Buses.get_set_other _ _ _ _ fun same => other (List.mem_singleton.2 same)]
    · rw [records room, filterMap_singleton, State.loopBroken, if_pos shows]
      rfl
    · rw [crosspoint]
      exact port
  · have stands : revertBus named s bus = s := if_neg fun contains => shows (List.contains_iff_mem.1 contains)
    rw [stands]
    refine ⟨fun b same => ?_, fun _ _ => rfl, fun room => ?_, rfl⟩
    · obtain rfl := List.mem_singleton.1 same
      rw [State.afterBreak, if_neg shows]
    · simp [State.loopBroken, shows, room]

/-- Another bus is reverted as it would have been at first. -/
theorem Reverted.next {named : List Source} {s t : State} {buses : List Bus} {bus : Bus} (h : Reverted named s t buses)
    (other : bus ∉ buses) : Reverted named s (revertBus named t bus) (buses ++ [bus]) := by
  obtain ⟨reverted, others, refusals, only⟩ := h
  obtain ⟨same, apart, records, alone⟩ := revertBus_reverted named t bus
  have record : t.crosspoint.buses.get bus = s.crosspoint.buses.get bus := others bus other
  have shows : t.shows bus = s.shows bus := by
    rw [State.shows, record, only]
    rfl
  have after : t.afterBreak named bus = s.afterBreak named bus := by rw [State.afterBreak, shows, record, State.afterBreak]
  have broken : t.loopBroken named bus = s.loopBroken named bus := by
    rw [State.loopBroken, shows, record, State.loopBroken, only]
    rfl
  refine ⟨fun b mem => ?_, fun b out => ?_, fun room => ?_, ?_⟩
  · rcases List.mem_append.1 mem with before | this
    · rw [apart b fun this => other (List.mem_singleton.1 this ▸ before), reverted b before]
    · obtain rfl := List.mem_singleton.1 this
      rw [same b this, after]
  · rw [List.mem_append, not_or] at out
    rw [apart b out.2, others b out.1]
  · have kept := refusals room
    have short : t.port.refusals.length ≤ 4 := by
      rw [kept]
      exact List.length_take_le _ _
    rw [records short, kept, List.filterMap_append, ← List.append_assoc, filterMap_singleton, filterMap_singleton, broken,
      take_take_append]
  · rw [alone, only]
    rfl

theorem revertBuses_reverted (named : List Source) (s : State) {buses : List Bus} (distinct : buses.Nodup) :
    Reverted named s (buses.foldl (revertBus named) s) buses := by
  induction buses using List.reverseRecOn with
  | nil => exact .nothing named s
  | append_singleton rest bus ih =>
    obtain ⟨nodup, -, apart⟩ := List.nodup_append.1 distinct
    rw [List.foldl_append]
    exact (ih nodup).next fun mem => apart bus mem bus (by simp) rfl

/-- A cycle broken reverts every bus. -/
theorem breakCycle_reverted {s : State} {named : List Source} (h : cycleNumbers s = some named) :
    Reverted named s (breakCycle s) allBuses := by
  have broken : breakCycle s = allBuses.foldl (revertBus named) s := by
    unfold breakCycle
    rw [h]
  rw [broken]
  exact revertBuses_reverted named s (by decide)

theorem BusRecord.revert_eq (r : BusRecord) (named : List Source) :
    r.revert named = { r with selected := if r.previous ∈ named then 0 else r.previous, previous := 0, lastSelector := none } := by
  simp [BusRecord.revert]

end Sys2Proof.Machine

namespace Sys2Proof.ThePeerView

open Sys2Proof Sys2Proof.Machine Sys2Proof.Safety

/-- Settles O40: the cycle test is a closure over the lower peers, the reversion goes bus by bus, and a switch point that nothing else
moves reverts what it finds. -/
theorem cyclesAreBrokenByReversion : Obligations.CyclesAreBrokenByReversion := by
  refine ⟨fun s own programme => ⟨cycleNumbers_eq_none_iff programme, fun named h n => mem_cycleNumbers programme h n⟩,
    fun s h => breakCycle_none h, fun s named h room => ?_, fun s named running flag queue young idle latest cycle => ?_⟩
  · intro shows reverted records
    obtain ⟨changed, -, refusals, only⟩ := breakCycle_reverted h
    refine ⟨fun b => ?_, refusals room, only⟩
    rw [changed b (by cases b <;> decide), State.afterBreak, BusRecord.revert_eq]
    rfl
  · have kept := moveToSwitchLine_same s
    generalize hv : moveCounters (s.raster.runTo s.raster.switchLines) s = v at kept
    have state : v.loader.state = .running := by rw [kept.loader, running.2]
    have still : ∀ x ∈ v.peers.entries, x.age < 23 := by rwa [kept.peers]
    have found : cycleNumbers (reviseOwner (advanceAll (openField v))) = some named := by
      rw [advanced_cycleNumbers, kept.cycleNumbers, cycle]
    have engine : ((openField v).setPeers (openField v).peers.grow).engine = s.engine := kept.engine
    have crosspoint : (reviseOwner (advanceAll (openField v))).crosspoint = s.crosspoint := by
      rw [(reviseOwner_frame _).2.2.2.2.1, advanceAll_crosspoint, advanceEngine_idle (by rw [engine, idle]) (by rw [engine, latest])]
      exact kept.crosspoint
    have waiting : (reviseOwner (advanceAll (openField v))).intake.queue = [] := by simp [kept.intake, queue]
    have broken := breakCycle_reverted found
    have point : takeSwitchPoint v = finishField (breakCycle (reviseOwner (advanceAll (openField v)))) := by
      rw [takeSwitchPoint_young state still, offerDue_of_empty _ (by rw [(breakCycle_frame _).2.2.1, waiting])]
    generalize reviseOwner (advanceAll (openField v)) = u at crosspoint broken point
    have map : (breakCycle u).crosspoint = { s.crosspoint with buses := (breakCycle u).crosspoint.buses } := by
      rw [← crosspoint, broken.only]
      rfl
    have monitor : (takeSwitchPoint v).monitor = u.monitor := by
      rw [point, (finishField_changes _).2.2.2.1, (breakCycle_frame u).2.2.2.2.2.1]
    refine ⟨takeSwitchPoint v, by rw [exec_switchPoint_running running flag, hv], fun b => ?_⟩
    have reverted : (breakCycle u).crosspoint.buses.get b = u.afterBreak named b :=
      broken.reverted b (by cases b <;> decide)
    have bus : (takeSwitchPoint v).crosspoint.buses.get b = { u.afterBreak named b with
        effective := resolveSource s.crosspoint u.monitor (u.afterBreak named b).selected } := by
      rw [point, finishField_get, reverted, map, (breakCycle_frame u).2.2.2.2.2.1]
      rfl
    have selected : (u.afterBreak named b).selected =
        if resolveSource s.crosspoint u.monitor (s.crosspoint.buses.get b).selected ∈ named then
          (if (s.crosspoint.buses.get b).previous ∈ named then 0 else (s.crosspoint.buses.get b).previous)
        else (s.crosspoint.buses.get b).selected := by
      rw [State.afterBreak, State.shows, crosspoint, BusRecord.revert_eq]
      split <;> rfl
    rw [bus, monitor]
    exact ⟨selected, rfl⟩

end Sys2Proof.ThePeerView
end
